-- ==== Sys2Proof/Word.lean ====
section
/-! DEFINITION. The word types of the block, all unsigned bit vectors of a fixed width (00_scope.md R9, R12).
No value of the block is signed (R11). -/

namespace Sys2Proof

/-- A frame byte, a mode code or a character code (R9). -/
abbrev Byte := BitVec 8

/-- SEGPAT7: bit `i` is logical segment `i`, A = 0 to G = 6 (30_encoding.md R64, R13, D4). -/
abbrev Pattern := BitVec 7

/-- FRAME64: byte `i` is bits `8i+7 : 8i` (30_encoding.md R61). -/
abbrev Frame := BitVec 64

/-- The port `dot[2:0]`: bit `j` is dot flag `j` (30_encoding.md R65). -/
abbrev Dots := BitVec 3

end Sys2Proof
end

