-- ==== Sys2Proof/Config.lean ====
section
/-! DEFINITION. What the spec leaves open and the model leaves free (93_implementation_defined.md U1, U2), and the
block's identity. An `opaque` constant here has no body: no proof can learn a value of it. -/

namespace Sys2Proof

/-- The identity string of the spec (00_scope.md R2, D18). It names the block and affects nothing. -/
def Config.identity : String := "rs-meter-core/RSM-v7"

/-- FREE VALUE (log 6): candidates for the 22 patterns of SEG_ROM other than that of '0', which no source gives
(40_segment_rom.md R101, U1, D8). `Machine.segRom` keeps them within R102 to R106. -/
opaque Config.romPatterns : Vector Pattern 22

/-- FREE VALUE (log 10): what `digit_pat<k>` carries for a frame whose `ok` is 0 (10_state.md R31, U2). Its arguments are
the mode byte and the four gathered patterns: an output is a function of the frame (R30), of the bits the block reads
(20_memory.md R43), and no digit pattern depends on bit 3 of a digit byte (41_frame_decoder.md R125). -/
opaque Config.unspecPattern : Byte → Vector Pattern 4 → Fin 4 → Pattern

/-- FREE VALUE (log 10): what `dot[j]` carries for a frame whose `ok` is 0 (10_state.md R31, U2). Its arguments are the mode
byte and the dot flag itself: of the other frame bits a dot depends on none (R30, R43, R125). -/
opaque Config.unspecDot : Byte → Bool → Fin 3 → Bool

end Sys2Proof
end

