-- ==== Sys2Proof/Syntax.lean ====
section
/-! DEFINITION. The operations of the block: one constructor of `Instr` for each of the 52 rows of opcode_table.json,
and the types of their operands and results. -/

namespace Sys2Proof

/-- The 22 characters of the segment ROM (40_segment_rom.md R100): the digits, ten letters, blank and dash. -/
inductive GlyphChar where
  | d0 | d1 | d2 | d3 | d4 | d5 | d6 | d7 | d8 | d9
  | letterP | letterE | letterN | letterF | letterC | letterL | letterH | letterR | letterT | letterI | blank | dash
  deriving DecidableEq, Repr

/-- A Glyph: "the printable character a SegmentPattern represents", or the unrecognized marker UNREC (00_scope.md R14). -/
inductive Glyph where
  | char (c : GlyphChar)
  | unrec
  deriving DecidableEq, Repr

/-- The seven segments; logical index 0 is A and 6 is G (00_scope.md R13). -/
inductive Segment where
  | a | b | c | d | e | f | g
  deriving DecidableEq, Repr

/-- The failure value of the frame decoder: one kind, carrying the offending byte (60_exceptions.md R161). -/
inductive DecodeError where
  | unrecognizedMode (c : Byte)
  deriving DecidableEq, Repr

/-- A returned result, `Ok(v)` or `Err(e)` (00_scope.md R11). An error is a value, not a trap (60_exceptions.md R160). -/
inductive Res (α : Type) where
  | ok (v : α)
  | err (e : DecodeError)
  deriving DecidableEq, Repr

/-- A Reading: one mode (carried as its own code, R67), exactly 4 patterns, most significant first, and exactly 3 dot
flags (00_scope.md R9, R14). -/
structure Reading where
  mode   : Byte
  digits : Vector Pattern 4
  dots   : Vector Bool 3
  deriving DecidableEq, Repr

/-- The `Ok` value of DISPLAY: the mode, the four glyphs and the dots (41_frame_decoder.md R141). -/
structure Displayed where
  mode   : Byte
  glyphs : Vector Glyph 4
  dots   : Vector Bool 3
  deriving DecidableEq, Repr

/-- The contents of the segment ROM: 23 (pattern, glyph) entries (40_segment_rom.md R100, R101). -/
abbrev SegRom := Vector (Pattern × Glyph) 23

/-- The operations, one constructor for each row of opcode_table.json. -/
inductive Instr where
  /-- SEGDEC: the segment ROM lookup of a pattern (R107). -/
  | segdec (p : Pattern)
  /-- BITTEST: bit `n` of byte `b`, with no upper bound on `n` (R120, D15). -/
  | bittest (b : Byte) (n : Nat)
  /-- DIGEXT: the pattern of digit `k` of a frame (R121). -/
  | digext (k : Fin 4) (f : Frame)
  /-- DOTEXT: dot flag `j` of a frame (R124). -/
  | dotext (j : Fin 3) (f : Frame)
  /-- MODEDEC: the check of a mode code (R130). -/
  | modedec (c : Byte)
  /-- FRAMEDEC: the decoding of one frame (R133). -/
  | framedec (f : Frame)
  /-- GLYPHS: the four glyphs of a Reading (R140). -/
  | glyphs (r : Reading)
  /-- DISPLAY: the whole chain (R141). -/
  | display (f : Frame)
  /-- MODE_0x00: the row of the mode-code decode map that matches 0x00 (R70). -/
  | mode00
  /-- MODE_0x01: the row of the mode-code decode map that matches 0x01 (R70). -/
  | mode01
  /-- MODE_0x02: the row of the mode-code decode map that matches 0x02 (R70). -/
  | mode02
  /-- MODE_0x03: the row of the mode-code decode map that matches 0x03 (R70). -/
  | mode03
  /-- MODE_0x04: the row of the mode-code decode map that matches 0x04 (R70). -/
  | mode04
  /-- MODE_0x05: the row of the mode-code decode map that matches 0x05 (R70). -/
  | mode05
  /-- MODE_0x06: the row of the mode-code decode map that matches 0x06 (R70). -/
  | mode06
  /-- MODE_0x07: the row of the mode-code decode map that matches 0x07 (R70). -/
  | mode07
  /-- MODE_0x08: the row of the mode-code decode map that matches 0x08 (R70). -/
  | mode08
  /-- MODE_0x09: the row of the mode-code decode map that matches 0x09 (R70). -/
  | mode09
  /-- MODE_0x0A: the row of the mode-code decode map that matches 0x0A (R70). -/
  | mode0A
  /-- MODE_0x0D: the row of the mode-code decode map that matches 0x0D (R70). -/
  | mode0D
  /-- MODE_0x10: the row of the mode-code decode map that matches 0x10 (R70). -/
  | mode10
  /-- MODE_0x13: the row of the mode-code decode map that matches 0x13 (R70). -/
  | mode13
  /-- MODE_0x14: the row of the mode-code decode map that matches 0x14 (R70). -/
  | mode14
  /-- MODE_0x15: the row of the mode-code decode map that matches 0x15 (R70). -/
  | mode15
  /-- MODE_0x16: the row of the mode-code decode map that matches 0x16 (R70). -/
  | mode16
  /-- MODE_0x17: the row of the mode-code decode map that matches 0x17 (R70). -/
  | mode17
  /-- MODE_0x19: the row of the mode-code decode map that matches 0x19 (R70). -/
  | mode19
  /-- MODE_UNRECOGNIZED: the row for a byte outside the 19 codes (R70, R72). -/
  | modeUnrecognized (c : Byte)
  /-- ROM_0: the row of the segment ROM decode map for entry SEG_ROM[0] (R71). -/
  | rom0
  /-- ROM_1: the row of the segment ROM decode map for entry SEG_ROM[1] (R71). -/
  | rom1
  /-- ROM_2: the row of the segment ROM decode map for entry SEG_ROM[2] (R71). -/
  | rom2
  /-- ROM_3: the row of the segment ROM decode map for entry SEG_ROM[3] (R71). -/
  | rom3
  /-- ROM_4: the row of the segment ROM decode map for entry SEG_ROM[4] (R71). -/
  | rom4
  /-- ROM_5: the row of the segment ROM decode map for entry SEG_ROM[5] (R71). -/
  | rom5
  /-- ROM_6: the row of the segment ROM decode map for entry SEG_ROM[6] (R71). -/
  | rom6
  /-- ROM_7: the row of the segment ROM decode map for entry SEG_ROM[7] (R71). -/
  | rom7
  /-- ROM_8: the row of the segment ROM decode map for entry SEG_ROM[8] (R71). -/
  | rom8
  /-- ROM_9: the row of the segment ROM decode map for entry SEG_ROM[9] (R71). -/
  | rom9
  /-- ROM_P: the row of the segment ROM decode map for entry SEG_ROM[10] (R71). -/
  | romP
  /-- ROM_E: the row of the segment ROM decode map for entry SEG_ROM[11] (R71). -/
  | romE
  /-- ROM_N: the row of the segment ROM decode map for entry SEG_ROM[12] (R71). -/
  | romN
  /-- ROM_F: the row of the segment ROM decode map for entry SEG_ROM[13] (R71). -/
  | romF
  /-- ROM_C: the row of the segment ROM decode map for entry SEG_ROM[14] (R71). -/
  | romC
  /-- ROM_L: the row of the segment ROM decode map for entry SEG_ROM[15] (R71). -/
  | romL
  /-- ROM_H1: the row of the segment ROM decode map for entry SEG_ROM[16] (R71). -/
  | romH1
  /-- ROM_H2: the row of the segment ROM decode map for entry SEG_ROM[17] (R71). -/
  | romH2
  /-- ROM_R: the row of the segment ROM decode map for entry SEG_ROM[18] (R71). -/
  | romR
  /-- ROM_T: the row of the segment ROM decode map for entry SEG_ROM[19] (R71). -/
  | romT
  /-- ROM_I: the row of the segment ROM decode map for entry SEG_ROM[20] (R71). -/
  | romI
  /-- ROM_BLANK: the row of the segment ROM decode map for entry SEG_ROM[21] (R71). -/
  | romBlank
  /-- ROM_DASH: the row of the segment ROM decode map for entry SEG_ROM[22] (R71). -/
  | romDash
  /-- ROM_UNREC: the row for a pattern outside the ROM (R71, R73). -/
  | romUnrec (p : Pattern)
  deriving DecidableEq, Repr

/-- Where a value is applied. The block has no selector and no instruction word (30_encoding.md R69): which operation
reads a value is settled by the place it stands on. The digit, dot and bit indices are constants of the wiring (R121,
R124, R120), so they belong to the place. MODEL'S OWN FORM: log 1. -/
inductive Lane where
  /-- the port group SEGDEC, port `seg_pat` -/
  | segdec
  /-- an internal bit test wired for index `n` -/
  | bittest (n : Nat)
  /-- the internal function DIGEXT wired for digit `k` -/
  | digext (k : Fin 4)
  /-- the internal function DOTEXT wired for dot `j` -/
  | dotext (j : Fin 3)
  /-- the internal function MODEDEC -/
  | modedec
  /-- the port group FRAMEDEC, port `frame` -/
  | framedec
  /-- the pseudo-operation GLYPHS -/
  | glyphs
  /-- the pseudo-operation DISPLAY -/
  | display
  /-- the mode-code decode map (R70) -/
  | modeMap
  /-- the segment ROM decode map (R71) -/
  | romMap
  deriving DecidableEq, Repr

/-- One operation as the collaborators present it: the place, and the bytes of the value, byte 0 first (log 1). -/
structure Request where
  lane  : Lane
  bytes : List Byte
  deriving DecidableEq, Repr

/-- Why a request is no operation (log 15). -/
inductive Reject where
  /-- not the number of bytes of the format: "unrepresentable (fixed-size input)" (R47, R162) -/
  | wrongLength
  /-- a byte with its top bit set where a 7-bit pattern stands (R9, R64) -/
  | patternTooWide
  /-- a RESULT tuple that is no Reading: `ok` is 0 or the code is no mode code (R67, R140) -/
  | notAReading
  deriving DecidableEq, Repr

/-- What decoding a request answers. -/
inductive Decoded where
  | instr (i : Instr)
  | reject (why : Reject)
  deriving DecidableEq, Repr

end Sys2Proof
end

