-- ==== Sys2Proof/Machine/Tables.lean ====
section
/-! DEFINITION. The constants of 00_scope.md R8, each defined once, and the two constant tables: the mode table
(10_state.md R24) and the segment ROM (R25, 40_segment_rom.md section 1). -/

namespace Sys2Proof.Machine

/-- ORDER: `order[i]` is the frame-byte bit that gives logical segment `i` (R8, R121, R123). -/
def order : Vector Nat 7 := #v[0, 4, 6, 7, 2, 1, 5]

/-- DOT_BIT (R8, R124). -/
def dotBit : Nat := 3

/-- DIGIT_BYTE: the byte that holds digit `k`, digit 0 the most significant (R8, R121). -/
def digitByte : Vector Nat 4 := #v[6, 5, 4, 3]

/-- DOT_BYTE: the byte whose bit DOT_BIT is dot flag `j` (R8, R124). -/
def dotByte : Vector Nat 3 := #v[5, 4, 3]

/-- MODE_BYTE (R8, R62). -/
def modeByte : Nat := 0

/-- The mode table with its names (R24, R15). Only the first and last names are the document's; the others are placeholder
labels without meaning (D6, U4). -/
def modeTable : List (Byte × String) :=
  [(0x00, "DcVoltage"), (0x01, "MODE_0x01"), (0x02, "MODE_0x02"), (0x03, "MODE_0x03"),
   (0x04, "MODE_0x04"), (0x05, "MODE_0x05"), (0x06, "MODE_0x06"), (0x07, "MODE_0x07"),
   (0x08, "MODE_0x08"), (0x09, "MODE_0x09"), (0x0A, "MODE_0x0A"), (0x0D, "MODE_0x0D"),
   (0x10, "MODE_0x10"), (0x13, "MODE_0x13"), (0x14, "MODE_0x14"), (0x15, "MODE_0x15"),
   (0x16, "MODE_0x16"), (0x17, "MODE_0x17"), (0x19, "Tempature")]

/-- MODE_CODES: the 19 codes, taken as the complete list (R24, C3, D7; log 7). -/
def modeCodes : List Byte := modeTable.map Prod.fst

/-- The label of a mode code (R15). -/
def modeName (c : Byte) : Option String := (modeTable.find? (fun e => e.1 == c)).map Prod.snd

/-- Logical index of a segment (R13). -/
def segmentIndex : Segment → Fin 7
  | .a => 0 | .b => 1 | .c => 2 | .d => 3 | .e => 4 | .f => 5 | .g => 6

/-- Whether a pattern lights a segment (R64). -/
def lit (p : Pattern) (x : Segment) : Bool := p.getLsbD (segmentIndex x).val

/-- The glyph column of SEG_ROM in the order of opcode_table.json's rows SEG_ROM[k] (R100, R104; log 6). -/
def romGlyphs : List Glyph :=
  [.char .d0, .char .d1, .char .d2, .char .d3, .char .d4, .char .d5, .char .d6, .char .d7, .char .d8, .char .d9,
   .char .letterP, .char .letterE, .char .letterN, .char .letterF, .char .letterC, .char .letterL, .char .letterH, .char .letterH, .char .letterR, .char .letterT, .char .letterI,
   .char .blank, .char .dash]

/-- What 40_segment_rom.md R102 to R106 require of SEG_ROM: the glyph column (R104, R106), the fixed entry (R102) and
distinct patterns (R103). -/
abbrev RomWf (rom : SegRom) : Prop :=
  rom.toList.map Prod.snd = romGlyphs ∧ rom[0].1 = 0x3F ∧ (rom.toList.map Prod.fst).Nodup

/-- The informative reference fill REF of 93_implementation_defined.md I1, without the '0' row. Used by the model only
where the free candidates break R103, and by tests marked "under REF". -/
def refPatterns : Vector Pattern 22 :=
  #v[0x06, 0x5B, 0x4F, 0x66, 0x6D, 0x7D, 0x07, 0x7F, 0x6F, 0x73, 0x79,
     0x54, 0x71, 0x39, 0x38, 0x76, 0x74, 0x50, 0x78, 0x30, 0x00, 0x40]

/-- The ROM that has the pattern 0x3F for '0' (R102) and the given patterns for entries 1 to 22. -/
def romFrom (v : Vector Pattern 22) : SegRom :=
  #v[(0x3F, .char .d0),
     (v[0], .char .d1), (v[1], .char .d2), (v[2], .char .d3), (v[3], .char .d4),
     (v[4], .char .d5), (v[5], .char .d6), (v[6], .char .d7), (v[7], .char .d8),
     (v[8], .char .d9), (v[9], .char .letterP), (v[10], .char .letterE), (v[11], .char .letterN),
     (v[12], .char .letterF), (v[13], .char .letterC), (v[14], .char .letterL), (v[15], .char .letterH),
     (v[16], .char .letterH), (v[17], .char .letterR), (v[18], .char .letterT), (v[19], .char .letterI),
     (v[20], .char .blank), (v[21], .char .dash)]

/-- Whether 22 candidates keep R103 beside the fixed pattern 0x3F. -/
def distinctPatterns (v : Vector Pattern 22) : Bool := decide ((0x3F :: v.toList).Nodup)

/-- The patterns of entries 1 to 22: the free candidates where they are distinct, so that every SEG_ROM of R102 to R106
is possible and no other (log 6). -/
def romPatterns : Vector Pattern 22 :=
  if distinctPatterns Config.romPatterns then Config.romPatterns else refPatterns

/-- SEG_ROM of this block: '0' fixed, the rest free within R102 to R106 (R101, U1; log 6). -/
def segRom : SegRom := romFrom romPatterns

/-- REF as a whole ROM (93_implementation_defined.md I1; informative only). -/
def refRom : SegRom := romFrom refPatterns

/-- The character code of a glyph character (30_encoding.md R66, D5). -/
def ascii : GlyphChar → Byte
  | .blank => 0x20 | .dash => 0x2D
  | .d0 => 0x30 | .d1 => 0x31 | .d2 => 0x32 | .d3 => 0x33 | .d4 => 0x34
  | .d5 => 0x35 | .d6 => 0x36 | .d7 => 0x37 | .d8 => 0x38 | .d9 => 0x39
  | .letterC => 0x43 | .letterE => 0x45 | .letterF => 0x46 | .letterH => 0x48 | .letterI => 0x49
  | .letterL => 0x4C | .letterN => 0x4E | .letterP => 0x50 | .letterR => 0x52 | .letterT => 0x54

end Sys2Proof.Machine
end

