-- ==== Sys2Proof/Machine/Operands.lean ====
section
/-! DEFINITION. The operand and result forms: bit test, frame lanes, digit and dot fields (41_frame_decoder.md sections 1
and 2), and the packings of a glyph and of a RESULT (30_encoding.md section 2). -/

namespace Sys2Proof.Machine

/-- BITTEST: the bit of weight `2^n`, and 0 for an index of 8 or more (R120, D15). -/
def bitTest (b : Byte) (n : Nat) : Bool := if n < 8 then b.getLsbD n else false

/-- `byte(f, i)`, bits `8i+7 : 8i` of a frame (R11, R61). -/
def byte (f : Frame) (i : Nat) : Byte := f.extractLsb' (8 * i) 8

/-- Segment `i` of a digit byte: its bit `ORDER[i]` (R63, R121). -/
def segmentBit (b : Byte) (i : Fin 7) : BitVec 1 := BitVec.ofBool (bitTest b order[i])

/-- The seven segments of a digit byte, segment 6 leftmost (R121; concatenation as in R11). -/
def gather (b : Byte) : Pattern :=
  segmentBit b 6 ++ (segmentBit b 5 ++ (segmentBit b 4 ++ (segmentBit b 3 ++ (segmentBit b 2 ++
    (segmentBit b 1 ++ segmentBit b 0)))))

/-- DIGEXT: the pattern of digit `k` (R121). -/
def digExt (f : Frame) (k : Fin 4) : Pattern := gather (byte f digitByte[k])

/-- DOTEXT: dot flag `j` (R124). -/
def dotExt (f : Frame) (j : Fin 3) : Bool := bitTest (byte f dotByte[j]) dotBit

/-- The four digit patterns of a frame, most significant first (R133). -/
def digitsOf (f : Frame) : Vector Pattern 4 := #v[digExt f 0, digExt f 1, digExt f 2, digExt f 3]

/-- The three dot flags of a frame (R133). -/
def dotsOf (f : Frame) : Vector Bool 3 := #v[dotExt f 0, dotExt f 1, dotExt f 2]

/-- The dot vector `dot[2:0]` of three flags, flag `j` at bit `j` (R65). -/
def dotVector (v : Vector Bool 3) : Dots := BitVec.ofBool v[2] ++ (BitVec.ofBool v[1] ++ BitVec.ofBool v[0])

/-- `glyph_known` of a glyph (R66). -/
def glyphKnown : Glyph → Bool
  | .char _ => true
  | .unrec => false

/-- `glyph_char` of a glyph (R66). -/
def glyphCode : Glyph → Byte
  | .char c => ascii c
  | .unrec => 0x00

/-- GLYPH9, the tuple of `glyph_known` and `glyph_char` (R66). -/
def glyph9 (g : Glyph) : BitVec 9 := BitVec.ofBool (glyphKnown g) ++ glyphCode g

/-- The RESULT tuple: `ok`, `code`, the four patterns and `dot`, leftmost first (R67). Its listed fields make 40 bits, not
the 45 that R67's prose counts: log 11. -/
def packResult (ok : Bool) (code : Byte) (digits : Vector Pattern 4) (dot : Dots) : BitVec 40 :=
  BitVec.ofBool ok ++ (code ++ (digits[0] ++ (digits[1] ++ (digits[2] ++ (digits[3] ++ dot)))))

/-- The `ok` field of a RESULT tuple (R67). -/
def resultOk (w : BitVec 40) : Bool := w.getLsbD 39

/-- The Reading that a RESULT tuple with `ok = 1` holds (R67). -/
def resultReading (w : BitVec 40) : Reading where
  mode := w.extractLsb' 31 8
  digits := #v[w.extractLsb' 24 7, w.extractLsb' 17 7, w.extractLsb' 10 7, w.extractLsb' 3 7]
  dots := #v[w.getLsbD 0, w.getLsbD 1, w.getLsbD 2]

/-- The RESULT tuple of a Reading (R67). -/
def packReading (r : Reading) : BitVec 40 := packResult true r.mode r.digits (dotVector r.dots)

end Sys2Proof.Machine
end

