-- ==== Sys2Proof/WellFormed.lean ====
section
/-! DEFINITION. Which operations are well formed. Widths and index ranges are already in the types (R9, R121, R124); what
is left are the three operands that a table limits. -/

namespace Sys2Proof

/-- A Reading is the `Ok` value of FRAMEDEC, so its mode is a mode code (41_frame_decoder.md R133, R140). -/
def Reading.wf (r : Reading) : Bool := Machine.modeCodes.contains r.mode

/-- MODE_UNRECOGNIZED is the row of the bytes outside MODE_CODES (30_encoding.md R70, R72). -/
def modeUnmatched (c : Byte) : Bool := !Machine.modeCodes.contains c

/-- ROM_UNREC is the row of the patterns outside SEG_ROM (30_encoding.md R71, R73). -/
def romUnmatched (rom : SegRom) (p : Pattern) : Bool := !(rom.toList.map Prod.fst).contains p

/-- Well-formedness of an operation under a ROM. -/
def Instr.wf (rom : SegRom) : Instr → Bool
  | .glyphs r => r.wf
  | .modeUnrecognized c => modeUnmatched c
  | .romUnrec p => romUnmatched rom p
  | .segdec _ => true
  | .bittest _ _ => true
  | .digext _ _ => true
  | .dotext _ _ => true
  | .modedec _ => true
  | .framedec _ => true
  | .display _ => true
  | .mode00 => true
  | .mode01 => true
  | .mode02 => true
  | .mode03 => true
  | .mode04 => true
  | .mode05 => true
  | .mode06 => true
  | .mode07 => true
  | .mode08 => true
  | .mode09 => true
  | .mode0A => true
  | .mode0D => true
  | .mode10 => true
  | .mode13 => true
  | .mode14 => true
  | .mode15 => true
  | .mode16 => true
  | .mode17 => true
  | .mode19 => true
  | .rom0 => true
  | .rom1 => true
  | .rom2 => true
  | .rom3 => true
  | .rom4 => true
  | .rom5 => true
  | .rom6 => true
  | .rom7 => true
  | .rom8 => true
  | .rom9 => true
  | .romP => true
  | .romE => true
  | .romN => true
  | .romF => true
  | .romC => true
  | .romL => true
  | .romH1 => true
  | .romH2 => true
  | .romR => true
  | .romT => true
  | .romI => true
  | .romBlank => true
  | .romDash => true

end Sys2Proof
end

