-- ==== Sys2Proof/Decode.lean ====
section
/-! DEFINITION. Decoding a presented request to an operation, total on any bytes and rejecting by name, and after it the
encoder. The formats are the spec's (30_encoding.md R60 to R67); the lane is the model's own form (log 1). -/

namespace Sys2Proof

/-- A value of one byte (formats MODE8, DIGBYTE8, R62, R63). -/
def oneByte : List Byte → Option Byte
  | [b] => some b
  | _ => none

/-- FRAME64 from its eight bytes, byte 0 in the low lane (R61, R44). -/
def frameOf : List Byte → Option Frame
  | [b0, b1, b2, b3, b4, b5, b6, b7] => some (b7 ++ (b6 ++ (b5 ++ (b4 ++ (b3 ++ (b2 ++ (b1 ++ b0)))))))
  | _ => none

/-- The five bytes of a RESULT tuple, low byte first (R67; log 11). -/
def resultOf : List Byte → Option (BitVec 40)
  | [b0, b1, b2, b3, b4] => some (b4 ++ (b3 ++ (b2 ++ (b1 ++ b0))))
  | _ => none

/-- The mode-code decode map: 19 rows with mask 0xFF, and MODE_UNRECOGNIZED (R70). -/
def decodeMode (c : Byte) : Instr :=
  match c.toNat with
  | 0x00 => .mode00
  | 0x01 => .mode01
  | 0x02 => .mode02
  | 0x03 => .mode03
  | 0x04 => .mode04
  | 0x05 => .mode05
  | 0x06 => .mode06
  | 0x07 => .mode07
  | 0x08 => .mode08
  | 0x09 => .mode09
  | 0x0A => .mode0A
  | 0x0D => .mode0D
  | 0x10 => .mode10
  | 0x13 => .mode13
  | 0x14 => .mode14
  | 0x15 => .mode15
  | 0x16 => .mode16
  | 0x17 => .mode17
  | 0x19 => .mode19
  | _ => .modeUnrecognized c

/-- The segment ROM decode map: 23 rows with mask 0x7F, and ROM_UNREC (R71). Only the word of ROM_0 is fixed (R102); the
words of the other rows are the ROM's own patterns. -/
def decodeRom (rom : SegRom) (p : Pattern) : Instr :=
  if p = 0x3F then .rom0
  else if p = rom[1].1 then .rom1
  else if p = rom[2].1 then .rom2
  else if p = rom[3].1 then .rom3
  else if p = rom[4].1 then .rom4
  else if p = rom[5].1 then .rom5
  else if p = rom[6].1 then .rom6
  else if p = rom[7].1 then .rom7
  else if p = rom[8].1 then .rom8
  else if p = rom[9].1 then .rom9
  else if p = rom[10].1 then .romP
  else if p = rom[11].1 then .romE
  else if p = rom[12].1 then .romN
  else if p = rom[13].1 then .romF
  else if p = rom[14].1 then .romC
  else if p = rom[15].1 then .romL
  else if p = rom[16].1 then .romH1
  else if p = rom[17].1 then .romH2
  else if p = rom[18].1 then .romR
  else if p = rom[19].1 then .romT
  else if p = rom[20].1 then .romI
  else if p = rom[21].1 then .romBlank
  else if p = rom[22].1 then .romDash
  else .romUnrec p

/-- An operation on a 7-bit pattern held in one byte (SEGPAT7, R64). -/
def decodePattern (mk : Pattern → Instr) (bytes : List Byte) : Decoded :=
  match oneByte bytes with
  | some b => if b.getLsbD 7 then .reject .patternTooWide else .instr (mk (b.setWidth 7))
  | none => .reject .wrongLength

/-- An operation on one whole byte (R62). -/
def decodeByte (mk : Byte → Instr) (bytes : List Byte) : Decoded :=
  match oneByte bytes with
  | some b => .instr (mk b)
  | none => .reject .wrongLength

/-- An operation on a frame (R61). Every 8 bytes are a frame (R46). -/
def decodeFrame (mk : Frame → Instr) (bytes : List Byte) : Decoded :=
  match frameOf bytes with
  | some f => .instr (mk f)
  | none => .reject .wrongLength

/-- GLYPHS takes a Reading, "the `Ok` value of FRAMEDEC" (R140), presented as its RESULT tuple (R67). -/
def decodeReading (bytes : List Byte) : Decoded :=
  match resultOf bytes with
  | some w =>
    if Machine.resultOk w && (Machine.resultReading w).wf then .instr (.glyphs (Machine.resultReading w))
    else .reject .notAReading
  | none => .reject .wrongLength

/-- Decoding a request under a ROM: total, and every rejection has a name. -/
def decode (rom : SegRom) (r : Request) : Decoded :=
  match r.lane with
  | .segdec => decodePattern .segdec r.bytes
  | .bittest n => decodeByte (fun b => .bittest b n) r.bytes
  | .digext k => decodeFrame (.digext k) r.bytes
  | .dotext j => decodeFrame (.dotext j) r.bytes
  | .modedec => decodeByte .modedec r.bytes
  | .framedec => decodeFrame .framedec r.bytes
  | .glyphs => decodeReading r.bytes
  | .display => decodeFrame .display r.bytes
  | .modeMap => decodeByte decodeMode r.bytes
  | .romMap => decodePattern (decodeRom rom) r.bytes

/-- The one byte of a pattern, top bit 0 (SEGPAT7, R64). -/
def patternByte (p : Pattern) : Byte := p.setWidth 8

/-- The eight bytes of a frame, byte 0 first (R61). -/
def frameBytes (f : Frame) : List Byte :=
  [Machine.byte f 0, Machine.byte f 1, Machine.byte f 2, Machine.byte f 3,
   Machine.byte f 4, Machine.byte f 5, Machine.byte f 6, Machine.byte f 7]

/-- The five bytes of a RESULT tuple, low byte first (R67; log 11). -/
def resultBytes (w : BitVec 40) : List Byte :=
  [w.extractLsb' 0 8, w.extractLsb' 8 8, w.extractLsb' 16 8, w.extractLsb' 24 8, w.extractLsb' 32 8]

/-- The request of an operation under a ROM: the words of the same formats. -/
def encode (rom : SegRom) : Instr → Request
  | .segdec p => ⟨.segdec, [patternByte p]⟩
  | .bittest b n => ⟨.bittest n, [b]⟩
  | .digext k f => ⟨.digext k, frameBytes f⟩
  | .dotext j f => ⟨.dotext j, frameBytes f⟩
  | .modedec c => ⟨.modedec, [c]⟩
  | .framedec f => ⟨.framedec, frameBytes f⟩
  | .glyphs r => ⟨.glyphs, resultBytes (Machine.packReading r)⟩
  | .display f => ⟨.display, frameBytes f⟩
  | .mode00 => ⟨.modeMap, [0x00]⟩
  | .mode01 => ⟨.modeMap, [0x01]⟩
  | .mode02 => ⟨.modeMap, [0x02]⟩
  | .mode03 => ⟨.modeMap, [0x03]⟩
  | .mode04 => ⟨.modeMap, [0x04]⟩
  | .mode05 => ⟨.modeMap, [0x05]⟩
  | .mode06 => ⟨.modeMap, [0x06]⟩
  | .mode07 => ⟨.modeMap, [0x07]⟩
  | .mode08 => ⟨.modeMap, [0x08]⟩
  | .mode09 => ⟨.modeMap, [0x09]⟩
  | .mode0A => ⟨.modeMap, [0x0A]⟩
  | .mode0D => ⟨.modeMap, [0x0D]⟩
  | .mode10 => ⟨.modeMap, [0x10]⟩
  | .mode13 => ⟨.modeMap, [0x13]⟩
  | .mode14 => ⟨.modeMap, [0x14]⟩
  | .mode15 => ⟨.modeMap, [0x15]⟩
  | .mode16 => ⟨.modeMap, [0x16]⟩
  | .mode17 => ⟨.modeMap, [0x17]⟩
  | .mode19 => ⟨.modeMap, [0x19]⟩
  | .modeUnrecognized c => ⟨.modeMap, [c]⟩
  | .rom0 => ⟨.romMap, [0x3F]⟩
  | .rom1 => ⟨.romMap, [patternByte rom[1].1]⟩
  | .rom2 => ⟨.romMap, [patternByte rom[2].1]⟩
  | .rom3 => ⟨.romMap, [patternByte rom[3].1]⟩
  | .rom4 => ⟨.romMap, [patternByte rom[4].1]⟩
  | .rom5 => ⟨.romMap, [patternByte rom[5].1]⟩
  | .rom6 => ⟨.romMap, [patternByte rom[6].1]⟩
  | .rom7 => ⟨.romMap, [patternByte rom[7].1]⟩
  | .rom8 => ⟨.romMap, [patternByte rom[8].1]⟩
  | .rom9 => ⟨.romMap, [patternByte rom[9].1]⟩
  | .romP => ⟨.romMap, [patternByte rom[10].1]⟩
  | .romE => ⟨.romMap, [patternByte rom[11].1]⟩
  | .romN => ⟨.romMap, [patternByte rom[12].1]⟩
  | .romF => ⟨.romMap, [patternByte rom[13].1]⟩
  | .romC => ⟨.romMap, [patternByte rom[14].1]⟩
  | .romL => ⟨.romMap, [patternByte rom[15].1]⟩
  | .romH1 => ⟨.romMap, [patternByte rom[16].1]⟩
  | .romH2 => ⟨.romMap, [patternByte rom[17].1]⟩
  | .romR => ⟨.romMap, [patternByte rom[18].1]⟩
  | .romT => ⟨.romMap, [patternByte rom[19].1]⟩
  | .romI => ⟨.romMap, [patternByte rom[20].1]⟩
  | .romBlank => ⟨.romMap, [patternByte rom[21].1]⟩
  | .romDash => ⟨.romMap, [patternByte rom[22].1]⟩
  | .romUnrec p => ⟨.romMap, [patternByte p]⟩

/-- The request that an opcode-table word stands for. The table gives no selector, so its width chooses the place: up to
7 bits is a pattern for the ROM map; 8 bits is a byte for the mode map, but for 0x3F, the one ROM word the table fixes;
more is a frame, its upper bits 0. No row has zero bits or more than 64 (log 2). -/
def tableRequest (nbits w : Nat) : Request :=
  if nbits = 0 then ⟨.framedec, []⟩
  else if nbits ≤ 7 then ⟨.romMap, [patternByte (BitVec.ofNat 7 w)]⟩
  else if nbits ≤ 8 then
    if w % 256 = 0x3F then ⟨.romMap, [0x3F]⟩ else ⟨.modeMap, [BitVec.ofNat 8 w]⟩
  else if nbits ≤ 64 then ⟨.framedec, frameBytes (BitVec.ofNat 64 (w % 2 ^ nbits))⟩
  else ⟨.framedec, []⟩

/-- The operation this decoder reads from an opcode-table word, bit 0 the least significant bit of its first byte, under
the block's own ROM. -/
def decodeTableWord (nbits w : Nat) : Option Instr :=
  match decode Machine.segRom (tableRequest nbits w) with
  | .instr i => some i
  | .reject _ => none

end Sys2Proof
end

