-- ==== Sys2Proof/Machine/State.lean ====
section
/-! DEFINITION. The state. The block itself "has no mutable state. Its only "state" is two constant tables" (10_state.md);
beside them stand its input ports, which the collaborators hold (R28, R175), and the spec's notion of a program: the
operations presented and the results bound (30_encoding.md R87). The output ports are functions of these (R22, R30) and
stand in Machine/Ports.lean and Machine/Flags.lean. -/

namespace Sys2Proof.Machine

/-- A result of an operation, as the spec's programs bind it (R87). -/
inductive Value where
  /-- SEGDEC: a Glyph (R107) -/
  | glyph (g : Glyph)
  /-- BITTEST and DOTEXT: one bit (R120, R124) -/
  | bit (b : Bool)
  /-- DIGEXT: a pattern (R121) -/
  | pattern (p : Pattern)
  /-- MODEDEC: a mode or the error (R130) -/
  | mode (r : Res Byte)
  /-- FRAMEDEC: a Reading or the error (R133) -/
  | frame (r : Res Reading)
  /-- GLYPHS: four glyphs (R140) -/
  | glyphs (gs : Vector Glyph 4)
  /-- DISPLAY: mode, glyphs and dots, or the error (R141) -/
  | display (r : Res Displayed)
  deriving DecidableEq, Repr

/-- Everything the spec gives the machine. -/
structure State where
  /-- MODE_CODES, the mode table (R24, R29) -/
  modeCodes : List Byte
  /-- SEG_ROM, the segment ROM (R25, R29, R101) -/
  segRom : SegRom
  /-- the input port `seg_pat` (R28) -/
  segPat : Pattern
  /-- the input port `frame` (R28) -/
  frame : Frame
  /-- MODEL'S OWN: the operations presented and not yet evaluated, first one first (R87; log 3) -/
  program : List Request
  /-- MODEL'S OWN: the results bound so far, oldest first (R87; log 4) -/
  results : List Value
  deriving DecidableEq, Repr

/-- The machine has no fault: "the block does not stop, hang or change state because of" its one error, which is a
returned value (60_exceptions.md R160; log 17). Raised by nothing. -/
inductive Fault
  deriving DecidableEq, Repr

/-- Why a step has no meaning. -/
inductive Refusal where
  /-- Raised by no arm of this model: every operation has its meaning. Safe. -/
  | notModelled (mnemonic : String)
  /-- Raised by `step` alone, for a presented request that is no value of its port (20_memory.md R47, 60_exceptions.md
  R162; log 15). Safe. -/
  | badRequest (why : Reject)
  deriving DecidableEq, Repr

/-- From power-up (R32): both tables hold their contents. The spec gives no value for the inputs (R32, N18): they are 0
here, a DESIGN CHOICE (log 5). No program is presented (log 3) and nothing is bound ("each program starts from the empty
binding", 95_test_vectors.md section 3). -/
def State.reset : State where
  modeCodes := Sys2Proof.Machine.modeCodes
  segRom := Sys2Proof.Machine.segRom
  segPat := 0
  frame := 0
  program := []
  results := []

end Sys2Proof.Machine
end

