-- ==== Sys2Proof/Machine/Ops.lean ====
section
/-! DEFINITION. The named operations: reads of the two tables, the one error, the decoders as functions of their inputs,
and the four ways an evaluation changes the state. -/

namespace Sys2Proof.Machine

/-- A read of the segment ROM, total over its 128 addresses (R41, R107, R108): the glyph of the entry whose 7 bits all
match, else UNREC. -/
def romRead (rom : SegRom) (p : Pattern) : Glyph :=
  match rom.toList.find? (fun e => e.1 == p) with
  | some e => e.2
  | none => .unrec

/-- A read of the mode table, one bit at each of its 256 addresses (R42). -/
def modeBit (codes : List Byte) (c : Byte) : Bool := codes.contains c

/-- `raise UnrecognizedMode(c)`: the operation returns `Err(UnrecognizedMode(c))` (R11, R161). The block's one error, and a
value: no state is saved, nothing is entered and there is nothing to return from (R160, R165, R166). -/
def raiseUnrecognizedMode {α : Type} (c : Byte) : Res α := .err (.unrecognizedMode c)

/-- MODEDEC as a function of its byte (R130). -/
def modeDec (codes : List Byte) (c : Byte) : Res Byte :=
  if modeBit codes c then .ok c else raiseUnrecognizedMode c

/-- FRAMEDEC as a function of its frame (R133). -/
def frameDec (codes : List Byte) (f : Frame) : Res Reading :=
  match modeDec codes (byte f modeByte) with
  | .err e => .err e
  | .ok m => .ok { mode := m, digits := digitsOf f, dots := dotsOf f }

/-- GLYPHS as a function of its Reading: four ROM reads (R140). -/
def glyphsOf (rom : SegRom) (r : Reading) : Vector Glyph 4 :=
  #v[romRead rom r.digits[0], romRead rom r.digits[1], romRead rom r.digits[2], romRead rom r.digits[3]]

/-- DISPLAY as a function of its frame (R141, R88). -/
def displayOf (codes : List Byte) (rom : SegRom) (f : Frame) : Res Displayed :=
  match frameDec codes f with
  | .err e => .err e
  | .ok r => .ok { mode := r.mode, glyphs := glyphsOf rom r, dots := r.dots }

/-- The collaborator applies a pattern to `seg_pat` (R28). -/
def State.drivePattern (s : State) (p : Pattern) : State := { s with segPat := p }

/-- The collaborator applies a frame to `frame` and holds it (R28, R183). -/
def State.driveFrame (s : State) (f : Frame) : State := { s with frame := f }

/-- The collaborator binds a result (R87; log 4). -/
def State.bindResult (s : State) (v : Value) : State := { s with results := s.results ++ [v] }

/-- The operations left to present (R87; log 3). -/
def State.present (s : State) (rs : List Request) : State := { s with program := rs }

/-- Evaluating SEGDEC: the pattern stands on `seg_pat` and its glyph is the result (R107). -/
def evalSegdec (p : Pattern) (s : State) : Host.Outcome State Fault Refusal :=
  .next ((s.drivePattern p).bindResult (.glyph (romRead s.segRom p)))

/-- Evaluating row `k` of the segment ROM decode map: SEGDEC of that entry's pattern (R71; log 14). -/
def evalRomRow (k : Fin 23) (s : State) : Host.Outcome State Fault Refusal := evalSegdec s.segRom[k].1 s

/-- Evaluating MODEDEC: an internal function of a byte, which drives no port (R69, R130; log 13). -/
def evalModedec (c : Byte) (s : State) : Host.Outcome State Fault Refusal :=
  .next (s.bindResult (.mode (modeDec s.modeCodes c)))

/-- Evaluating an operation on a frame: the frame stands on `frame`, and `v` is its result (R28, R133; log 13). -/
def evalOnFrame (f : Frame) (v : Value) (s : State) : Host.Outcome State Fault Refusal :=
  .next ((s.driveFrame f).bindResult v)

end Sys2Proof.Machine
end

