-- ==== Sys2Proof/Machine/Composite.lean ====
section
/-! DEFINITION. The composites GLYPHS and DISPLAY (41_frame_decoder.md section 5, 30_encoding.md R88). -/

namespace Sys2Proof.Machine

/-- GLYPHS: the four glyphs of a Reading; it drives no input port (R140; log 13). -/
def execGlyphs (r : Reading) (s : State) : Host.Outcome State Fault Refusal :=
  .next (s.bindResult (.glyphs (glyphsOf s.segRom r)))

/-- DISPLAY: FRAMEDEC of the frame on the input, then GLYPHS of an `Ok` Reading (R141). -/
def execDisplay (f : Frame) (s : State) : Host.Outcome State Fault Refusal :=
  evalOnFrame f (.display (displayOf s.modeCodes s.segRom f)) s

end Sys2Proof.Machine
end

