-- ==== Sys2Proof/Machine/FrameDecoder.lean ====
section
/-! DEFINITION. FRAMEDEC (41_frame_decoder.md section 4). -/

namespace Sys2Proof.Machine

/-- FRAMEDEC: the whole Reading or the error, of the frame on the input (R133, R134). Glyphs are not resolved (R139). -/
def execFramedec (f : Frame) (s : State) : Host.Outcome State Fault Refusal :=
  evalOnFrame f (.frame (frameDec s.modeCodes f)) s

end Sys2Proof.Machine
end

