-- ==== Sys2Proof/Machine/FrameFields.lean ====
section
/-! DEFINITION. The field extraction family: BITTEST, DIGEXT and DOTEXT (41_frame_decoder.md sections 1 and 2). -/

namespace Sys2Proof.Machine

/-- BITTEST: an internal function without a port (R120, R69; log 13). -/
def execBittest (b : Byte) (n : Nat) (s : State) : Host.Outcome State Fault Refusal :=
  .next (s.bindResult (.bit (bitTest b n)))

/-- DIGEXT: the pattern of digit `k` of the frame on the input (R121). -/
def execDigext (k : Fin 4) (f : Frame) (s : State) : Host.Outcome State Fault Refusal :=
  evalOnFrame f (.pattern (digExt f k)) s

/-- DOTEXT: dot flag `j` of the frame on the input (R124). -/
def execDotext (j : Fin 3) (f : Frame) (s : State) : Host.Outcome State Fault Refusal :=
  evalOnFrame f (.bit (dotExt f j)) s

/-- The second spelling `DIG k f` of DIGEXT (R88). -/
def dig (k : Fin 4) (f : Frame) : Instr := .digext k f

/-- The second spelling `DOT0 f` of DOTEXT (R88). -/
def dot0 (f : Frame) : Instr := .dotext 0 f

end Sys2Proof.Machine
end

