-- ==== Sys2Proof/Machine/ModeDecoder.lean ====
section
/-! DEFINITION. The mode decoder family: MODEDEC and the rows of its decode map (41_frame_decoder.md section 3). -/

namespace Sys2Proof.Machine

/-- MODEDEC: `Ok(c)` or `Err(UnrecognizedMode(c))` (R130). -/
def execModedec (c : Byte) (s : State) : Host.Outcome State Fault Refusal := evalModedec c s

/-- MODE_0x00: MODEDEC of the code 0x00 (R70; log 14). -/
def execMode00 (s : State) : Host.Outcome State Fault Refusal := evalModedec 0x00 s

/-- MODE_0x01: MODEDEC of the code 0x01 (R70; log 14). -/
def execMode01 (s : State) : Host.Outcome State Fault Refusal := evalModedec 0x01 s

/-- MODE_0x02: MODEDEC of the code 0x02 (R70; log 14). -/
def execMode02 (s : State) : Host.Outcome State Fault Refusal := evalModedec 0x02 s

/-- MODE_0x03: MODEDEC of the code 0x03 (R70; log 14). -/
def execMode03 (s : State) : Host.Outcome State Fault Refusal := evalModedec 0x03 s

/-- MODE_0x04: MODEDEC of the code 0x04 (R70; log 14). -/
def execMode04 (s : State) : Host.Outcome State Fault Refusal := evalModedec 0x04 s

/-- MODE_0x05: MODEDEC of the code 0x05 (R70; log 14). -/
def execMode05 (s : State) : Host.Outcome State Fault Refusal := evalModedec 0x05 s

/-- MODE_0x06: MODEDEC of the code 0x06 (R70; log 14). -/
def execMode06 (s : State) : Host.Outcome State Fault Refusal := evalModedec 0x06 s

/-- MODE_0x07: MODEDEC of the code 0x07 (R70; log 14). -/
def execMode07 (s : State) : Host.Outcome State Fault Refusal := evalModedec 0x07 s

/-- MODE_0x08: MODEDEC of the code 0x08 (R70; log 14). -/
def execMode08 (s : State) : Host.Outcome State Fault Refusal := evalModedec 0x08 s

/-- MODE_0x09: MODEDEC of the code 0x09 (R70; log 14). -/
def execMode09 (s : State) : Host.Outcome State Fault Refusal := evalModedec 0x09 s

/-- MODE_0x0A: MODEDEC of the code 0x0A (R70; log 14). -/
def execMode0A (s : State) : Host.Outcome State Fault Refusal := evalModedec 0x0A s

/-- MODE_0x0D: MODEDEC of the code 0x0D (R70; log 14). -/
def execMode0D (s : State) : Host.Outcome State Fault Refusal := evalModedec 0x0D s

/-- MODE_0x10: MODEDEC of the code 0x10 (R70; log 14). -/
def execMode10 (s : State) : Host.Outcome State Fault Refusal := evalModedec 0x10 s

/-- MODE_0x13: MODEDEC of the code 0x13 (R70; log 14). -/
def execMode13 (s : State) : Host.Outcome State Fault Refusal := evalModedec 0x13 s

/-- MODE_0x14: MODEDEC of the code 0x14 (R70; log 14). -/
def execMode14 (s : State) : Host.Outcome State Fault Refusal := evalModedec 0x14 s

/-- MODE_0x15: MODEDEC of the code 0x15 (R70; log 14). -/
def execMode15 (s : State) : Host.Outcome State Fault Refusal := evalModedec 0x15 s

/-- MODE_0x16: MODEDEC of the code 0x16 (R70; log 14). -/
def execMode16 (s : State) : Host.Outcome State Fault Refusal := evalModedec 0x16 s

/-- MODE_0x17: MODEDEC of the code 0x17 (R70; log 14). -/
def execMode17 (s : State) : Host.Outcome State Fault Refusal := evalModedec 0x17 s

/-- MODE_0x19: MODEDEC of the code 0x19 (R70; log 14). -/
def execMode19 (s : State) : Host.Outcome State Fault Refusal := evalModedec 0x19 s

/-- MODE_UNRECOGNIZED: MODEDEC of a byte outside the table, which returns the error (R70, R72, R161). -/
def execModeUnrecognized (c : Byte) (s : State) : Host.Outcome State Fault Refusal := evalModedec c s

end Sys2Proof.Machine
end

