-- ==== Sys2Proof/Machine/SegmentRom.lean ====
section
/-! DEFINITION. The segment ROM family: SEGDEC and the rows of its decode map (40_segment_rom.md section 2). -/

namespace Sys2Proof.Machine

/-- SEGDEC: the glyph of a pattern applied to `seg_pat` (R107). -/
def execSegdec (p : Pattern) (s : State) : Host.Outcome State Fault Refusal := evalSegdec p s

/-- ROM_0: SEGDEC of the one pattern the source gives, 0x3F (R102, R71). -/
def execRom0 (s : State) : Host.Outcome State Fault Refusal := evalSegdec 0x3F s

/-- ROM_1: SEGDEC of the pattern of SEG_ROM[1] (R71; log 14). -/
def execRom1 (s : State) : Host.Outcome State Fault Refusal := evalRomRow 1 s

/-- ROM_2: SEGDEC of the pattern of SEG_ROM[2] (R71; log 14). -/
def execRom2 (s : State) : Host.Outcome State Fault Refusal := evalRomRow 2 s

/-- ROM_3: SEGDEC of the pattern of SEG_ROM[3] (R71; log 14). -/
def execRom3 (s : State) : Host.Outcome State Fault Refusal := evalRomRow 3 s

/-- ROM_4: SEGDEC of the pattern of SEG_ROM[4] (R71; log 14). -/
def execRom4 (s : State) : Host.Outcome State Fault Refusal := evalRomRow 4 s

/-- ROM_5: SEGDEC of the pattern of SEG_ROM[5] (R71; log 14). -/
def execRom5 (s : State) : Host.Outcome State Fault Refusal := evalRomRow 5 s

/-- ROM_6: SEGDEC of the pattern of SEG_ROM[6] (R71; log 14). -/
def execRom6 (s : State) : Host.Outcome State Fault Refusal := evalRomRow 6 s

/-- ROM_7: SEGDEC of the pattern of SEG_ROM[7] (R71; log 14). -/
def execRom7 (s : State) : Host.Outcome State Fault Refusal := evalRomRow 7 s

/-- ROM_8: SEGDEC of the pattern of SEG_ROM[8] (R71; log 14). -/
def execRom8 (s : State) : Host.Outcome State Fault Refusal := evalRomRow 8 s

/-- ROM_9: SEGDEC of the pattern of SEG_ROM[9] (R71; log 14). -/
def execRom9 (s : State) : Host.Outcome State Fault Refusal := evalRomRow 9 s

/-- ROM_P: SEGDEC of the pattern of SEG_ROM[10] (R71; log 14). -/
def execRomP (s : State) : Host.Outcome State Fault Refusal := evalRomRow 10 s

/-- ROM_E: SEGDEC of the pattern of SEG_ROM[11] (R71; log 14). -/
def execRomE (s : State) : Host.Outcome State Fault Refusal := evalRomRow 11 s

/-- ROM_N: SEGDEC of the pattern of SEG_ROM[12] (R71; log 14). -/
def execRomN (s : State) : Host.Outcome State Fault Refusal := evalRomRow 12 s

/-- ROM_F: SEGDEC of the pattern of SEG_ROM[13] (R71; log 14). -/
def execRomF (s : State) : Host.Outcome State Fault Refusal := evalRomRow 13 s

/-- ROM_C: SEGDEC of the pattern of SEG_ROM[14] (R71; log 14). -/
def execRomC (s : State) : Host.Outcome State Fault Refusal := evalRomRow 14 s

/-- ROM_L: SEGDEC of the pattern of SEG_ROM[15] (R71; log 14). -/
def execRomL (s : State) : Host.Outcome State Fault Refusal := evalRomRow 15 s

/-- ROM_H1: SEGDEC of the pattern of SEG_ROM[16] (R71; log 14). -/
def execRomH1 (s : State) : Host.Outcome State Fault Refusal := evalRomRow 16 s

/-- ROM_H2: SEGDEC of the pattern of SEG_ROM[17] (R71; log 14). -/
def execRomH2 (s : State) : Host.Outcome State Fault Refusal := evalRomRow 17 s

/-- ROM_R: SEGDEC of the pattern of SEG_ROM[18] (R71; log 14). -/
def execRomR (s : State) : Host.Outcome State Fault Refusal := evalRomRow 18 s

/-- ROM_T: SEGDEC of the pattern of SEG_ROM[19] (R71; log 14). -/
def execRomT (s : State) : Host.Outcome State Fault Refusal := evalRomRow 19 s

/-- ROM_I: SEGDEC of the pattern of SEG_ROM[20] (R71; log 14). -/
def execRomI (s : State) : Host.Outcome State Fault Refusal := evalRomRow 20 s

/-- ROM_BLANK: SEGDEC of the pattern of SEG_ROM[21] (R71; log 14). -/
def execRomBlank (s : State) : Host.Outcome State Fault Refusal := evalRomRow 21 s

/-- ROM_DASH: SEGDEC of the pattern of SEG_ROM[22] (R71; log 14). -/
def execRomDash (s : State) : Host.Outcome State Fault Refusal := evalRomRow 22 s

/-- ROM_UNREC: SEGDEC of a pattern that no entry matches (R71, R73). -/
def execRomUnrec (p : Pattern) (s : State) : Host.Outcome State Fault Refusal := evalSegdec p s

end Sys2Proof.Machine
end

