-- ==== Sys2Proof/Machine/Dispatch.lean ====
section
/-! DEFINITION. One arm for each operation, each one direct call of its meaning. -/

namespace Sys2Proof.Machine

def exec (i : Instr) (s : State) : Host.Outcome State Fault Refusal :=
  match i with
  | .segdec p => Sys2Proof.Machine.execSegdec p s
  | .bittest b n => Sys2Proof.Machine.execBittest b n s
  | .digext k f => Sys2Proof.Machine.execDigext k f s
  | .dotext j f => Sys2Proof.Machine.execDotext j f s
  | .modedec c => Sys2Proof.Machine.execModedec c s
  | .framedec f => Sys2Proof.Machine.execFramedec f s
  | .glyphs r => Sys2Proof.Machine.execGlyphs r s
  | .display f => Sys2Proof.Machine.execDisplay f s
  | .mode00 => Sys2Proof.Machine.execMode00 s
  | .mode01 => Sys2Proof.Machine.execMode01 s
  | .mode02 => Sys2Proof.Machine.execMode02 s
  | .mode03 => Sys2Proof.Machine.execMode03 s
  | .mode04 => Sys2Proof.Machine.execMode04 s
  | .mode05 => Sys2Proof.Machine.execMode05 s
  | .mode06 => Sys2Proof.Machine.execMode06 s
  | .mode07 => Sys2Proof.Machine.execMode07 s
  | .mode08 => Sys2Proof.Machine.execMode08 s
  | .mode09 => Sys2Proof.Machine.execMode09 s
  | .mode0A => Sys2Proof.Machine.execMode0A s
  | .mode0D => Sys2Proof.Machine.execMode0D s
  | .mode10 => Sys2Proof.Machine.execMode10 s
  | .mode13 => Sys2Proof.Machine.execMode13 s
  | .mode14 => Sys2Proof.Machine.execMode14 s
  | .mode15 => Sys2Proof.Machine.execMode15 s
  | .mode16 => Sys2Proof.Machine.execMode16 s
  | .mode17 => Sys2Proof.Machine.execMode17 s
  | .mode19 => Sys2Proof.Machine.execMode19 s
  | .modeUnrecognized c => Sys2Proof.Machine.execModeUnrecognized c s
  | .rom0 => Sys2Proof.Machine.execRom0 s
  | .rom1 => Sys2Proof.Machine.execRom1 s
  | .rom2 => Sys2Proof.Machine.execRom2 s
  | .rom3 => Sys2Proof.Machine.execRom3 s
  | .rom4 => Sys2Proof.Machine.execRom4 s
  | .rom5 => Sys2Proof.Machine.execRom5 s
  | .rom6 => Sys2Proof.Machine.execRom6 s
  | .rom7 => Sys2Proof.Machine.execRom7 s
  | .rom8 => Sys2Proof.Machine.execRom8 s
  | .rom9 => Sys2Proof.Machine.execRom9 s
  | .romP => Sys2Proof.Machine.execRomP s
  | .romE => Sys2Proof.Machine.execRomE s
  | .romN => Sys2Proof.Machine.execRomN s
  | .romF => Sys2Proof.Machine.execRomF s
  | .romC => Sys2Proof.Machine.execRomC s
  | .romL => Sys2Proof.Machine.execRomL s
  | .romH1 => Sys2Proof.Machine.execRomH1 s
  | .romH2 => Sys2Proof.Machine.execRomH2 s
  | .romR => Sys2Proof.Machine.execRomR s
  | .romT => Sys2Proof.Machine.execRomT s
  | .romI => Sys2Proof.Machine.execRomI s
  | .romBlank => Sys2Proof.Machine.execRomBlank s
  | .romDash => Sys2Proof.Machine.execRomDash s
  | .romUnrec p => Sys2Proof.Machine.execRomUnrec p s

end Sys2Proof.Machine
end

