-- ==== Sys2Proof/Machine/Flags.lean ====
section
/-! DEFINITION. The block has no stored flags and no condition codes (10_state.md R22). Its one-bit outputs, `ok` and the
dots, are functions of the frame on the input (R28, R30). -/

namespace Sys2Proof.Machine

/-- The port `ok`: 1 if the frame decodes to a Reading (R28, R133). -/
def State.ok (s : State) : Bool := modeBit s.modeCodes (byte s.frame modeByte)

/-- Line `j` of the port `dot`: dot flag `j` of the frame when `ok = 1` (R124), a free value otherwise (R31; log 10). -/
def State.dotFlag (s : State) (j : Fin 3) : Bool :=
  if s.ok then dotExt s.frame j else Config.unspecDot (byte s.frame modeByte) (dotExt s.frame j) j

/-- The port `dot` (R28, R65). -/
def State.dot (s : State) : Dots := dotVector #v[s.dotFlag 0, s.dotFlag 1, s.dotFlag 2]

end Sys2Proof.Machine
end

