-- ==== Sys2Proof/Machine/Ports.lean ====
section
/-! DEFINITION. The output ports (10_state.md R28), each a function of its group's current inputs alone (R30). -/

namespace Sys2Proof.Machine

/-- The Glyph on the SEGDEC outputs (R107). -/
def State.segGlyph (s : State) : Glyph := romRead s.segRom s.segPat

/-- The port `glyph_known` (R28, R107). -/
def State.glyphKnown (s : State) : Bool := Machine.glyphKnown s.segGlyph

/-- The port `glyph_char` (R28, R66, R107). -/
def State.glyphChar (s : State) : Byte := glyphCode s.segGlyph

/-- The port `code`: frame byte 0, always driven (R28, R133). -/
def State.code (s : State) : Byte := byte s.frame modeByte

/-- The port `digit_pat<k>`: DIGEXT when `ok = 1` (R121), a free value otherwise (R31; log 10). -/
def State.digitPat (s : State) (k : Fin 4) : Pattern :=
  if s.ok then digExt s.frame k else Config.unspecPattern s.code (digitsOf s.frame) k

/-- The Glyph on the optional GLYPHS outputs of digit `k`: a SEGDEC instance wired to `digit_pat<k>` (R140; log 19). -/
def State.digitGlyph (s : State) (k : Fin 4) : Glyph := romRead s.segRom (s.digitPat k)

/-- The optional port `glyph_known_k` (R28, R140). -/
def State.glyphKnownK (s : State) (k : Fin 4) : Bool := Machine.glyphKnown (s.digitGlyph k)

/-- The optional port `glyph_char_k` (R28, R140). -/
def State.glyphCharK (s : State) (k : Fin 4) : Byte := glyphCode (s.digitGlyph k)

/-- The RESULT tuple on the FRAMEDEC outputs (R67; log 11). -/
def State.resultWord (s : State) : BitVec 40 :=
  packResult s.ok s.code #v[s.digitPat 0, s.digitPat 1, s.digitPat 2, s.digitPat 3] s.dot

/-- The abstract value of a RESULT tuple: the Reading when `ok = 1`, else the error with the byte on `code` (R67). -/
def resultValue (w : BitVec 40) : Res Reading :=
  if resultOk w then .ok (resultReading w) else raiseUnrecognizedMode (w.extractLsb' 31 8)

end Sys2Proof.Machine
end

