-- ==== Sys2Proof/Machine/Step.lean ====
section
/-! DEFINITION. One step: the collaborators present the next operation and the block evaluates it (R87, R175; log 3). -/

namespace Sys2Proof.Machine

/-- The next presented operation is decoded and evaluated. With none presented the inputs are held, and nothing changes:
every output is a function of the current inputs alone (R30). A request that is no value of its port is refused (log 15). -/
def step (s : State) : Host.Outcome State Fault Refusal :=
  match s.program with
  | [] => .next s
  | r :: rest =>
    match decode s.segRom r with
    | .instr i => exec i (s.present rest)
    | .reject why => .refused (.badRequest why)

/-- The same state with an opcode-table word as the next presented operation, in place of the one that stood there
(log 2, log 3). -/
def State.withFetchWord (s : State) (nbits w : Nat) : State := s.present (tableRequest nbits w :: s.program.tail)

end Sys2Proof.Machine
end

