-- ==== Sys2Proof/Safety.lean ====
section
/-! DEFINITION. The terms in which claims speak of runs. -/

namespace Sys2Proof.Machine

/-- The block's tables: the 19 mode codes (R24) and a ROM within R102 to R106. Holds at reset, and every step keeps it. -/
abbrev State.TablesOk (s : State) : Prop := s.modeCodes = Sys2Proof.Machine.modeCodes ∧ RomWf s.segRom

/-- The result an outcome has just bound, if there is one. -/
def boundBy (o : Host.Outcome State Fault Refusal) : Option Value :=
  match o with
  | .next t => t.results.getLast?
  | .fault _ => none
  | .refused _ => none

/-- Two states that agree on both tables. -/
abbrev State.SameTables (s t : State) : Prop := s.modeCodes = t.modeCodes ∧ s.segRom = t.segRom

/-- Every presented request is an operation, so a run of the program stops nowhere. -/
abbrev State.Ready (s : State) : Prop := ∀ r ∈ s.program, ∃ i, decode s.segRom r = .instr i

end Sys2Proof.Machine
end

