-- ==== Sys2Proof/Certificates/Slice0/Obligations.lean ====
section
/-! DEFINITION. The statements for the provers, from the numbered rules of the spec. Each docstring names the rule; "log n"
marks what is the model's choice. -/

open Sys2Proof Sys2Proof.Machine

/-- R24: the mode table and its labels; the 237 other byte values are no codes. -/
def Obligations.ResetModeTableHoldsTheNineteenCodes : Prop :=
  State.reset.modeCodes =
    [0x00, 0x01, 0x02, 0x03, 0x04, 0x05, 0x06, 0x07, 0x08, 0x09,
     0x0A, 0x0D, 0x10, 0x13, 0x14, 0x15, 0x16, 0x17, 0x19] ∧
  modeTable =
    [(0x00, "DcVoltage"), (0x01, "MODE_0x01"), (0x02, "MODE_0x02"), (0x03, "MODE_0x03"),
     (0x04, "MODE_0x04"), (0x05, "MODE_0x05"), (0x06, "MODE_0x06"), (0x07, "MODE_0x07"),
     (0x08, "MODE_0x08"), (0x09, "MODE_0x09"), (0x0A, "MODE_0x0A"), (0x0D, "MODE_0x0D"),
     (0x10, "MODE_0x10"), (0x13, "MODE_0x13"), (0x14, "MODE_0x14"), (0x15, "MODE_0x15"),
     (0x16, "MODE_0x16"), (0x17, "MODE_0x17"), (0x19, "Tempature")] ∧
  ((List.range 256).filter fun n => !modeBit State.reset.modeCodes (BitVec.ofNat 8 n)).length = 237 ∧
  modeBit State.reset.modeCodes 0xFF = false ∧ modeBit State.reset.modeCodes 0x11 = false ∧
  modeBit State.reset.modeCodes 0x12 = false

/-- R32: the tables hold their contents from power-up. The free patterns of SEG_ROM are within R102 to R106 (log 6). -/
def Obligations.ResetTablesAreAllowed : Prop :=
  State.reset.TablesOk

/-- R29: no step changes the tables, from any state; so the tables' invariant is kept. -/
def Obligations.StepKeepsBothTables : Prop :=
  ∀ s t : State, step s = .next t →
    t.modeCodes = s.modeCodes ∧ t.segRom = s.segRom ∧ (s.TablesOk → t.TablesOk)

/-- R104: the glyph multiset of an allowed SEG_ROM. -/
def Obligations.RomHoldsEachGlyphOnceAndHTwice : Prop :=
  ∀ s : State, s.TablesOk →
    (∀ g ∈ ([.d0, .d1, .d2, .d3, .d4, .d5, .d6, .d7, .d8, .d9, .letterP, .letterE,
     .letterN, .letterF, .letterC, .letterL, .letterR, .letterT, .letterI, .blank, .dash] : List GlyphChar),
      (s.segRom.toList.map Prod.snd).count (.char g) = 1) ∧
    (s.segRom.toList.map Prod.snd).count (.char .letterH) = 2

/-- R106: no entry is UNREC; 23 of the 128 patterns give a character and 105 give UNREC, for every allowed ROM. -/
def Obligations.TwentyThreePatternsGiveACharacter : Prop :=
  ∀ s : State, s.TablesOk →
    (∀ e ∈ s.segRom.toList, e.2 ≠ .unrec) ∧
    (∀ p : Pattern, ∃ g : Glyph, boundBy (exec (.segdec p) s) = some (.glyph g)) ∧
    ((List.range 128).filter fun n =>
      decide (boundBy (exec (.segdec (BitVec.ofNat 7 n)) s) ≠ some (.glyph .unrec))).length = 23 ∧
    ((List.range 128).filter fun n =>
      decide (boundBy (exec (.segdec (BitVec.ofNat 7 n)) s) = some (.glyph .unrec))).length = 105

/-- R105: the two 'H' entries have different patterns, both give 'H', and nothing else does. -/
def Obligations.ExactlyTwoPatternsGiveH : Prop :=
  ∀ s : State, s.TablesOk →
    s.segRom[16].1 ≠ s.segRom[17].1 ∧ s.segRom[16].2 = .char .letterH ∧ s.segRom[17].2 = .char .letterH ∧
    ∀ p : Pattern, boundBy (exec (.segdec p) s) = some (.glyph (.char .letterH)) ↔
      p = s.segRom[16].1 ∨ p = s.segRom[17].1

/-- R107: SEGDEC for every pattern and every allowed ROM: the matching entry's glyph, else UNREC; nothing else changes. -/
def Obligations.SegdecLooksUpItsPattern : Prop :=
  ∀ (s : State) (p : Pattern), s.TablesOk →
    (∀ g, (p, g) ∈ s.segRom.toList →
      ∃ (t : State) (c : GlyphChar), g = .char c ∧ exec (.segdec p) s = .next t ∧
        t = { s with segPat := p, results := s.results ++ [.glyph g] } ∧
        t.glyphKnown = true ∧ t.glyphChar = ascii c) ∧
    ((∀ g, (p, g) ∉ s.segRom.toList) →
      ∃ t : State, exec (.segdec p) s = .next t ∧
        t = { s with segPat := p, results := s.results ++ [.glyph .unrec] } ∧
        t.glyphKnown = false ∧ t.glyphChar = 0x00) ∧
    (p = 0x3F → ∃ t : State, exec (.segdec p) s = .next t ∧
      t = { s with segPat := p, results := s.results ++ [.glyph (.char .d0)] } ∧
      t.glyphKnown = true ∧ t.glyphChar = 0x30)

/-- R102, R107: the one entry the source gives, segments A to F lit and G unlit, and its glyph. That the row ROM_0 is evaluated as SEGDEC and drives seg_pat is the model's reading (log 14, log 13). -/
def Obligations.FixedEntryIsZero : Prop :=
  ∀ s : State, s.TablesOk →
    (0x3F, Glyph.char .d0) ∈ s.segRom.toList ∧
    (∀ x : Segment, lit 0x3F x = true ↔ x ≠ .g) ∧
    exec (.segdec 0x3F) s = .next { s with segPat := 0x3F, results := s.results ++ [.glyph (.char .d0)] } ∧
    exec .rom0 s = .next { s with segPat := 0x3F, results := s.results ++ [.glyph (.char .d0)] }

/-- R71: each of the 23 ROM rows gives its own glyph for its own pattern (log 14; that it drives seg_pat, log 13). -/
def Obligations.RomRowsGiveTheirGlyphs : Prop :=
  ∀ s : State, s.TablesOk → ∀ e ∈ ([(.rom0, 0, .d0), (.rom1, 1, .d1), (.rom2, 2, .d2), (.rom3, 3, .d3), (.rom4, 4, .d4),
     (.rom5, 5, .d5), (.rom6, 6, .d6), (.rom7, 7, .d7), (.rom8, 8, .d8), (.rom9, 9, .d9),
     (.romP, 10, .letterP), (.romE, 11, .letterE), (.romN, 12, .letterN), (.romF, 13, .letterF), (.romC, 14, .letterC),
     (.romL, 15, .letterL), (.romH1, 16, .letterH), (.romH2, 17, .letterH), (.romR, 18, .letterR), (.romT, 19, .letterT),
     (.romI, 20, .letterI), (.romBlank, 21, .blank), (.romDash, 22, .dash)] :
      List (Instr × Fin 23 × GlyphChar)),
    exec e.1 s = .next { s with segPat := s.segRom[e.2.1].1, results := s.results ++ [.glyph (.char e.2.2)] }

/-- R73: a pattern outside the ROM is not illegal; it gives UNREC. That the row is evaluated as SEGDEC and drives seg_pat is the model's reading (log 14, log 13). -/
def Obligations.UnmatchedPatternRowGivesUnrec : Prop :=
  ∀ (s : State) (p : Pattern), (∀ e ∈ s.segRom.toList, e.1 ≠ p) →
    exec (.romUnrec p) s = .next { s with segPat := p, results := s.results ++ [.glyph .unrec] }

/-- R66: GLYPH9 for each of the 22 characters and for UNREC. -/
def Obligations.GlyphPortsCarryTheCharacterCode : Prop :=
  ∀ s : State,
    (∀ e ∈ ([(.blank, 0x20), (.dash, 0x2D), (.d0, 0x30), (.d1, 0x31), (.d2, 0x32), (.d3, 0x33),
     (.d4, 0x34), (.d5, 0x35), (.d6, 0x36), (.d7, 0x37), (.d8, 0x38), (.d9, 0x39),
     (.letterC, 0x43), (.letterE, 0x45), (.letterF, 0x46), (.letterH, 0x48), (.letterI, 0x49), (.letterL, 0x4C),
     (.letterN, 0x4E), (.letterP, 0x50), (.letterR, 0x52), (.letterT, 0x54)] : List (GlyphChar × Byte)),
      s.segGlyph = .char e.1 →
        s.glyphKnown = true ∧ s.glyphChar = e.2 ∧ glyph9 s.segGlyph = 1#1 ++ e.2) ∧
    (s.segGlyph = .unrec → s.glyphKnown = false ∧ s.glyphChar = 0x00 ∧ glyph9 s.segGlyph = 0#9)

/-- R111: one pattern gives one glyph, at every digit position, for every mode, and by SEGDEC. -/
def Obligations.GlyphDependsOnThePatternAlone : Prop :=
  ∀ (s : State) (r r' : Reading) (k k' : Fin 4), r.digits[k] = r'.digits[k'] →
    ∃ gs gs' : Vector Glyph 4,
      boundBy (exec (.glyphs r) s) = some (.glyphs gs) ∧ boundBy (exec (.glyphs r') s) = some (.glyphs gs') ∧
      gs[k] = gs'[k'] ∧ boundBy (exec (.segdec r.digits[k]) s) = some (.glyph gs[k])

/-- R120: the bit of weight 2^n for n < 8, and 0 for every larger index. -/
def Obligations.BittestReadsTheBitOfItsWeight : Prop :=
  ∀ (s : State) (b : Byte) (n : Nat),
    exec (.bittest b n) s =
      .next { s with results := s.results ++ [.bit (if n < 8 then decide (b.toNat / 2 ^ n % 2 = 1) else false)] }

/-- R121: pattern bit i of digit k is bit ORDER[i] of byte DIGIT_BYTE[k]. That DIGEXT puts its frame on the input is the model's choice (log 13). -/
def Obligations.DigextGathersBitsInOrder : Prop :=
  ∀ (s : State) (k : Fin 4) (f : Frame), ∃ (t : State) (p : Pattern),
    exec (.digext k f) s = .next t ∧ t = { s with frame := f, results := s.results ++ [.pattern p] } ∧
    (∀ i : Fin 7, p.getLsbD i.val =
      f.getLsbD (8 * (#v[6, 5, 4, 3] : Vector Nat 4)[k] + (#v[0, 4, 6, 7, 2, 1, 5] : Vector Nat 7)[i])) ∧
    (t.ok = true → t.digitPat k = p)

/-- R122: the closed form of DIGEXT and its inverse. -/
def Obligations.DigitByteClosedForm : Prop :=
  (∀ (s : State) (k : Fin 4) (f : Frame) (b : Byte), b = f.extractLsb' (8 * (#v[6, 5, 4, 3] : Vector Nat 4)[k]) 8 →
    boundBy (exec (.digext k f) s) = some (.pattern
      (BitVec.ofBool (b.getLsbD 5) ++ (BitVec.ofBool (b.getLsbD 1) ++ (BitVec.ofBool (b.getLsbD 2) ++
        (BitVec.ofBool (b.getLsbD 7) ++ (BitVec.ofBool (b.getLsbD 6) ++ (BitVec.ofBool (b.getLsbD 4) ++
          BitVec.ofBool (b.getLsbD 0))))))))) ∧
  (∀ (s : State) (k : Fin 4) (f : Frame) (p : Pattern) (dot : Bool),
    f.extractLsb' (8 * (#v[6, 5, 4, 3] : Vector Nat 4)[k]) 8 =
      BitVec.ofBool (p.getLsbD 3) ++ (BitVec.ofBool (p.getLsbD 2) ++ (BitVec.ofBool (p.getLsbD 6) ++
        (BitVec.ofBool (p.getLsbD 1) ++ (BitVec.ofBool dot ++ (BitVec.ofBool (p.getLsbD 4) ++
          (BitVec.ofBool (p.getLsbD 5) ++ BitVec.ofBool (p.getLsbD 0))))))) →
    boundBy (exec (.digext k f) s) = some (.pattern p))

/-- R63: the segment letters of a digit byte, D C G B dot E F A from bit 7 down. -/
def Obligations.DigitByteSegmentsByPosition : Prop :=
  ∀ (s : State) (k : Fin 4) (f : Frame) (b : Byte), b = f.extractLsb' (8 * (#v[6, 5, 4, 3] : Vector Nat 4)[k]) 8 →
    ∃ p : Pattern, boundBy (exec (.digext k f) s) = some (.pattern p) ∧
      lit p .d = b.getLsbD 7 ∧ lit p .c = b.getLsbD 6 ∧ lit p .g = b.getLsbD 5 ∧ lit p .b = b.getLsbD 4 ∧
      lit p .e = b.getLsbD 2 ∧ lit p .f = b.getLsbD 1 ∧ lit p .a = b.getLsbD 0 ∧
      (∀ j : Fin 3, k.val = j.val + 1 → boundBy (exec (.dotext j f) s) = some (.bit (b.getLsbD 3))) ∧
      (k.val = 0 → boundBy (exec (.digext k (f ^^^ 1#64 <<< 51)) s) = some (.pattern p))

/-- R124: dot flag j is bit 3 of byte DOT_BYTE[j]. That DOTEXT puts its frame on the input is the model's choice (log 13). -/
def Obligations.DotextReadsBitThree : Prop :=
  ∀ (s : State) (j : Fin 3) (f : Frame), ∃ t : State,
    exec (.dotext j f) s = .next t ∧
    t = { s with frame := f,
                 results := s.results ++ [.bit (f.getLsbD (8 * (#v[5, 4, 3] : Vector Nat 3)[j] + 3))] } ∧
    (t.ok = true → t.dot.getLsbD j.val = f.getLsbD (8 * (#v[5, 4, 3] : Vector Nat 3)[j] + 3))

/-- R125: a dot depends on its one bit alone, and no digit on bit 3 of any byte. -/
def Obligations.DotsAndDigitsAreIndependent : Prop :=
  (∀ (s : State) (j : Fin 3) (f f' : Frame),
    f.getLsbD (8 * (#v[5, 4, 3] : Vector Nat 3)[j] + 3) = f'.getLsbD (8 * (#v[5, 4, 3] : Vector Nat 3)[j] + 3) →
    boundBy (exec (.dotext j f) s) = boundBy (exec (.dotext j f') s)) ∧
  (∀ (s : State) (k : Fin 4) (f f' : Frame), (∀ i : Fin 64, i.val % 8 ≠ 3 → f.getLsbD i.val = f'.getLsbD i.val) →
    boundBy (exec (.digext k f) s) = boundBy (exec (.digext k f') s)) ∧
  (∀ (s : State) (f f' : Frame), f.getLsbD 43 = false → f' = f ||| 1#64 <<< 43 →
    boundBy (exec (.dotext 0 f) s) = some (.bit false) ∧ boundBy (exec (.dotext 0 f') s) = some (.bit true) ∧
    boundBy (exec (.digext 1 f) s) = boundBy (exec (.digext 1 f') s))

/-- R126: no operation reads bit 3 of byte 6. -/
def Obligations.BitThreeOfByteSixIsUnread : Prop :=
  ∀ (s : State) (f f' : Frame), f' = f ^^^ 1#64 <<< 51 →
    (∀ k : Fin 4, boundBy (exec (.digext k f') s) = boundBy (exec (.digext k f) s)) ∧
    (∀ j : Fin 3, boundBy (exec (.dotext j f') s) = boundBy (exec (.dotext j f) s)) ∧
    boundBy (exec (.framedec f') s) = boundBy (exec (.framedec f) s) ∧
    boundBy (exec (.display f') s) = boundBy (exec (.display f) s)

/-- R130: Ok for the 19 codes and the error for every other byte. That MODEDEC of a byte drives no port is the model's choice (log 13). -/
def Obligations.ModedecChecksTheTable : Prop :=
  ∀ (s : State) (c : Byte), s.TablesOk →
    (c ∈ ([0x00, 0x01, 0x02, 0x03, 0x04, 0x05, 0x06, 0x07, 0x08, 0x09,
     0x0A, 0x0D, 0x10, 0x13, 0x14, 0x15, 0x16, 0x17, 0x19] : List Byte) →
      exec (.modedec c) s = .next { s with results := s.results ++ [.mode (.ok c)] }) ∧
    (c ∉ ([0x00, 0x01, 0x02, 0x03, 0x04, 0x05, 0x06, 0x07, 0x08, 0x09,
     0x0A, 0x0D, 0x10, 0x13, 0x14, 0x15, 0x16, 0x17, 0x19] : List Byte) →
      exec (.modedec c) s = .next { s with results := s.results ++ [.mode (.err (.unrecognizedMode c))] })

/-- R70: each of the 19 mode rows gives Ok of its code (log 14; that it drives no port, log 13). -/
def Obligations.ModeRowsAcceptTheirCode : Prop :=
  ∀ s : State, s.TablesOk → ∀ e ∈ ([(.mode00, 0x00), (.mode01, 0x01), (.mode02, 0x02), (.mode03, 0x03), (.mode04, 0x04), (.mode05, 0x05),
     (.mode06, 0x06), (.mode07, 0x07), (.mode08, 0x08), (.mode09, 0x09), (.mode0A, 0x0A), (.mode0D, 0x0D),
     (.mode10, 0x10), (.mode13, 0x13), (.mode14, 0x14), (.mode15, 0x15), (.mode16, 0x16), (.mode17, 0x17),
     (.mode19, 0x19)] : List (Instr × Byte)),
    exec e.1 s = .next { s with results := s.results ++ [.mode (.ok e.2)] }

/-- R72: an illegal mode code gives the error with that byte; it is a value and the machine goes on. That the row is evaluated as MODEDEC and drives no port is the model's reading (log 14, log 13). -/
def Obligations.UnmatchedModeRowReturnsTheError : Prop :=
  ∀ (s : State) (c : Byte), s.TablesOk →
    c ∉ ([0x00, 0x01, 0x02, 0x03, 0x04, 0x05, 0x06, 0x07, 0x08, 0x09,
     0x0A, 0x0D, 0x10, 0x13, 0x14, 0x15, 0x16, 0x17, 0x19] : List Byte) →
    exec (.modeUnrecognized c) s = .next { s with results := s.results ++ [.mode (.err (.unrecognizedMode c))] }

/-- R70: whichever row the decode map selects for a byte, evaluating it is MODEDEC of that byte (the row's evaluation is log 14, the lane log 1). -/
def Obligations.ModeMapAgreesWithModedec : Prop :=
  ∀ (s : State) (c : Byte), ∃ i : Instr,
    decode s.segRom ⟨.modeMap, [c]⟩ = .instr i ∧ exec i s = exec (.modedec c) s

/-- R71: whichever row the decode map selects for a pattern, evaluating it is SEGDEC of that pattern (the row's evaluation is log 14, the lane log 1). -/
def Obligations.RomMapAgreesWithSegdec : Prop :=
  ∀ (s : State) (p : Pattern), s.TablesOk → ∃ i : Instr,
    decode s.segRom ⟨.romMap, [patternByte p]⟩ = .instr i ∧ i.wf s.segRom = true ∧ exec i s = exec (.segdec p) s

/-- R131: byte 0 alone settles whether a frame decodes. -/
def Obligations.FrameOutcomeDependsOnByteZeroAlone : Prop :=
  ∀ (s : State) (f : Frame), s.TablesOk →
    (f.extractLsb' 0 8 ∈ ([0x00, 0x01, 0x02, 0x03, 0x04, 0x05, 0x06, 0x07, 0x08, 0x09,
     0x0A, 0x0D, 0x10, 0x13, 0x14, 0x15, 0x16, 0x17, 0x19] : List Byte) →
      ∃ r : Reading, boundBy (exec (.framedec f) s) = some (.frame (.ok r))) ∧
    (f.extractLsb' 0 8 ∉ ([0x00, 0x01, 0x02, 0x03, 0x04, 0x05, 0x06, 0x07, 0x08, 0x09,
     0x0A, 0x0D, 0x10, 0x13, 0x14, 0x15, 0x16, 0x17, 0x19] : List Byte) →
      ∃ e : DecodeError, boundBy (exec (.framedec f) s) = some (.frame (.err e)))

/-- R132: on failure the payload and port code are byte 0, ok is 0, and no other state changes. -/
def Obligations.ErrorCarriesTheOffendingByte : Prop :=
  ∀ (s : State) (f : Frame), s.TablesOk →
    f.extractLsb' 0 8 ∉ ([0x00, 0x01, 0x02, 0x03, 0x04, 0x05, 0x06, 0x07, 0x08, 0x09,
     0x0A, 0x0D, 0x10, 0x13, 0x14, 0x15, 0x16, 0x17, 0x19] : List Byte) →
    ∃ t : State, exec (.framedec f) s = .next t ∧
      t = { s with frame := f,
                   results := s.results ++ [.frame (.err (.unrecognizedMode (f.extractLsb' 0 8)))] } ∧
      t.ok = false ∧ t.code = f.extractLsb' 0 8

/-- R133: the Reading of a frame with a mode code, its ports, and the error otherwise. -/
def Obligations.FramedecAssemblesTheReading : Prop :=
  ∀ (s : State) (f : Frame), s.TablesOk →
    (f.extractLsb' 0 8 ∈ ([0x00, 0x01, 0x02, 0x03, 0x04, 0x05, 0x06, 0x07, 0x08, 0x09,
     0x0A, 0x0D, 0x10, 0x13, 0x14, 0x15, 0x16, 0x17, 0x19] : List Byte) →
      ∃ (t : State) (r : Reading), exec (.framedec f) s = .next t ∧
        t = { s with frame := f, results := s.results ++ [.frame (.ok r)] } ∧
        r.mode = f.extractLsb' 0 8 ∧
        (∀ (k : Fin 4) (i : Fin 7), r.digits[k].getLsbD i.val =
          f.getLsbD (8 * (#v[6, 5, 4, 3] : Vector Nat 4)[k] + (#v[0, 4, 6, 7, 2, 1, 5] : Vector Nat 7)[i])) ∧
        (∀ j : Fin 3, r.dots[j] = f.getLsbD (8 * (#v[5, 4, 3] : Vector Nat 3)[j] + 3)) ∧
        t.ok = true ∧ t.code = f.extractLsb' 0 8 ∧ (∀ k : Fin 4, t.digitPat k = r.digits[k]) ∧
        (∀ j : Fin 3, t.dot.getLsbD j.val = r.dots[j])) ∧
    (f.extractLsb' 0 8 ∉ ([0x00, 0x01, 0x02, 0x03, 0x04, 0x05, 0x06, 0x07, 0x08, 0x09,
     0x0A, 0x0D, 0x10, 0x13, 0x14, 0x15, 0x16, 0x17, 0x19] : List Byte) →
      ∃ t : State, exec (.framedec f) s = .next t ∧
        t = { s with frame := f,
                     results := s.results ++ [.frame (.err (.unrecognizedMode (f.extractLsb' 0 8)))] } ∧
        t.ok = false ∧ t.code = f.extractLsb' 0 8)

/-- R136 and R134: one of Ok and Err, never both, the same for the same frame and tables. -/
def Obligations.FramedecGivesExactlyOneOutcome : Prop :=
  ∀ (s s' : State) (f : Frame), s.SameTables s' →
    ((∃ r : Reading, boundBy (exec (.framedec f) s) = some (.frame (.ok r))) ↔
      ¬∃ c : Byte, boundBy (exec (.framedec f) s) = some (.frame (.err (.unrecognizedMode c)))) ∧
    boundBy (exec (.framedec f) s) = boundBy (exec (.framedec f) s')

/-- R137: bytes 1, 2 and 7 and bit 3 of byte 6 have no effect. -/
def Obligations.FramedecIgnoresReservedBits : Prop :=
  ∀ (s : State) (f f' : Frame),
    (∀ i : Fin 64, ¬(8 ≤ i.val ∧ i.val < 24) → i.val < 56 → i.val ≠ 51 → f.getLsbD i.val = f'.getLsbD i.val) →
    boundBy (exec (.framedec f) s) = boundBy (exec (.framedec f') s)

/-- R138: two mode codes, the same digits and dots. -/
def Obligations.ReadingContentIgnoresTheMode : Prop :=
  ∀ (s : State) (f f' : Frame), s.TablesOk →
    (∀ i : Fin 64, 8 ≤ i.val → f.getLsbD i.val = f'.getLsbD i.val) →
    f.extractLsb' 0 8 ∈ ([0x00, 0x01, 0x02, 0x03, 0x04, 0x05, 0x06, 0x07, 0x08, 0x09,
     0x0A, 0x0D, 0x10, 0x13, 0x14, 0x15, 0x16, 0x17, 0x19] : List Byte) →
    f'.extractLsb' 0 8 ∈ ([0x00, 0x01, 0x02, 0x03, 0x04, 0x05, 0x06, 0x07, 0x08, 0x09,
     0x0A, 0x0D, 0x10, 0x13, 0x14, 0x15, 0x16, 0x17, 0x19] : List Byte) →
    ∃ r r' : Reading, boundBy (exec (.framedec f) s) = some (.frame (.ok r)) ∧
      boundBy (exec (.framedec f') s) = some (.frame (.ok r')) ∧ r.digits = r'.digits ∧ r.dots = r'.dots

/-- R139: the Reading does not depend on the segment ROM, and UNREC patterns do not make a frame fail. -/
def Obligations.FramedecResolvesNoGlyph : Prop :=
  (∀ (s s' : State) (f : Frame), s.modeCodes = s'.modeCodes →
    boundBy (exec (.framedec f) s) = boundBy (exec (.framedec f) s')) ∧
  (∀ (s : State) (f : Frame), s.TablesOk →
    f.extractLsb' 0 8 ∈ ([0x00, 0x01, 0x02, 0x03, 0x04, 0x05, 0x06, 0x07, 0x08, 0x09,
     0x0A, 0x0D, 0x10, 0x13, 0x14, 0x15, 0x16, 0x17, 0x19] : List Byte) →
    (∀ k : Fin 4, romRead s.segRom (digExt f k) = .unrec) →
    ∃ r : Reading, boundBy (exec (.framedec f) s) = some (.frame (.ok r)) ∧ ∀ k : Fin 4, r.digits[k] = digExt f k)

/-- R164: an unknown byte 0 with UNREC patterns reports only UnrecognizedMode. -/
def Obligations.UnknownModeReportsOnlyItself : Prop :=
  ∀ (s : State) (f : Frame), s.TablesOk →
    f.extractLsb' 0 8 ∉ ([0x00, 0x01, 0x02, 0x03, 0x04, 0x05, 0x06, 0x07, 0x08, 0x09,
     0x0A, 0x0D, 0x10, 0x13, 0x14, 0x15, 0x16, 0x17, 0x19] : List Byte) →
    (∀ k : Fin 4, romRead s.segRom (digExt f k) = .unrec) →
    boundBy (exec (.framedec f) s) = some (.frame (.err (.unrecognizedMode (f.extractLsb' 0 8)))) ∧
    boundBy (exec (.display f) s) = some (.display (.err (.unrecognizedMode (f.extractLsb' 0 8))))

/-- R161: the error comes only from an unmatched code in MODEDEC, FRAMEDEC, DISPLAY or the unmatched-mode row, and carries that code. -/
def Obligations.OnlyModeChecksRaiseTheError : Prop :=
  ∀ (i : Instr) (s : State) (e : DecodeError), s.TablesOk →
    (boundBy (exec i s) = some (.mode (.err e)) ∨ boundBy (exec i s) = some (.frame (.err e)) ∨
      boundBy (exec i s) = some (.display (.err e))) →
    ∃ c : Byte, e = .unrecognizedMode c ∧
      c ∉ ([0x00, 0x01, 0x02, 0x03, 0x04, 0x05, 0x06, 0x07, 0x08, 0x09,
     0x0A, 0x0D, 0x10, 0x13, 0x14, 0x15, 0x16, 0x17, 0x19] : List Byte) ∧
      (i = .modedec c ∨ i = .modeUnrecognized c ∨
        ∃ f : Frame, f.extractLsb' 0 8 = c ∧ (i = .framedec f ∨ i = .display f))

/-- R140: GLYPHS is four ROM reads; the optional ports always carry SEGDEC of digit_pat<k>, and so the Reading's glyphs when the frame decodes. That GLYPHS of a Reading drives no port is log 13, and that the optional ports are present log 19. -/
def Obligations.GlyphsResolvesFourDigits : Prop :=
  (∀ (s : State) (r : Reading), s.TablesOk → ∃ gs : Vector Glyph 4,
    exec (.glyphs r) s = .next { s with results := s.results ++ [.glyphs gs] } ∧
    ∀ k : Fin 4, (∀ g, (r.digits[k], g) ∈ s.segRom.toList → gs[k] = g) ∧
      ((∀ g, (r.digits[k], g) ∉ s.segRom.toList) → gs[k] = .unrec)) ∧
  (∀ (s : State) (k : Fin 4) (g : Glyph), boundBy (exec (.segdec (s.digitPat k)) s) = some (.glyph g) →
    s.glyphKnownK k = glyphKnown g ∧ s.glyphCharK k = glyphCode g) ∧
  (∀ (s : State) (r : Reading) (gs : Vector Glyph 4), boundBy (exec (.framedec s.frame) s) = some (.frame (.ok r)) →
    boundBy (exec (.glyphs r) s) = some (.glyphs gs) →
    ∀ k : Fin 4, s.glyphKnownK k = glyphKnown gs[k] ∧ s.glyphCharK k = glyphCode gs[k])

/-- R141: the error of FRAMEDEC, or its mode and dots with the GLYPHS of its Reading. -/
def Obligations.DisplayIsFramedecThenGlyphs : Prop :=
  ∀ (s : State) (f : Frame), ∃ v : Res Displayed,
    exec (.display f) s = .next { s with frame := f, results := s.results ++ [.display v] } ∧
    (∀ e, boundBy (exec (.framedec f) s) = some (.frame (.err e)) → v = .err e) ∧
    (∀ r gs, boundBy (exec (.framedec f) s) = some (.frame (.ok r)) →
      boundBy (exec (.glyphs r) s) = some (.glyphs gs) → v = .ok ⟨r.mode, gs, r.dots⟩)

/-- R30: SEGDEC outputs depend on seg_pat alone, FRAMEDEC outputs on frame alone. -/
def Obligations.OutputsDependOnTheirGroupsInputs : Prop :=
  ∀ s t : State, s.SameTables t →
    (s.segPat = t.segPat → s.glyphKnown = t.glyphKnown ∧ s.glyphChar = t.glyphChar) ∧
    (s.frame = t.frame → s.ok = t.ok ∧ s.code = t.code ∧ (∀ k, s.digitPat k = t.digitPat k) ∧ s.dot = t.dot ∧
      ∀ k, s.glyphKnownK k = t.glyphKnownK k ∧ s.glyphCharK k = t.glyphCharK k)

/-- R67: the RESULT tuple on the ports, read back, is FRAMEDEC's result, and its fields stand where the tuple lists them. -/
def Obligations.ResultTupleHoldsTheFramedecResult : Prop :=
  ∀ s : State,
    boundBy (exec (.framedec s.frame) s) = some (.frame (resultValue s.resultWord)) ∧
    s.resultWord.getLsbD 39 = s.ok ∧ s.resultWord.extractLsb' 31 8 = s.code ∧
    s.resultWord.extractLsb' 24 7 = s.digitPat 0 ∧ s.resultWord.extractLsb' 17 7 = s.digitPat 1 ∧
    s.resultWord.extractLsb' 10 7 = s.digitPat 2 ∧ s.resultWord.extractLsb' 3 7 = s.digitPat 3 ∧
    s.resultWord.extractLsb' 0 3 = s.dot

/-- R46, R47, R61: any 8 bytes are a frame in lane order, and fail only by byte 0; other lengths are no frame (log 15). -/
def Obligations.EightBytesAreAFrameAndNothingElseIs : Prop :=
  (∀ (s : State) (b0 b1 b2 b3 b4 b5 b6 b7 : Byte), ∃ f : Frame,
    decode s.segRom ⟨.framedec, [b0, b1, b2, b3, b4, b5, b6, b7]⟩ = .instr (.framedec f) ∧
    [f.extractLsb' 0 8, f.extractLsb' 8 8, f.extractLsb' 16 8, f.extractLsb' 24 8, f.extractLsb' 32 8,
      f.extractLsb' 40 8, f.extractLsb' 48 8, f.extractLsb' 56 8] = [b0, b1, b2, b3, b4, b5, b6, b7] ∧
    (s.TablesOk → ((∃ e, boundBy (exec (.framedec f) s) = some (.frame (.err e))) ↔
      b0 ∉ ([0x00, 0x01, 0x02, 0x03, 0x04, 0x05, 0x06, 0x07, 0x08, 0x09,
     0x0A, 0x0D, 0x10, 0x13, 0x14, 0x15, 0x16, 0x17, 0x19] : List Byte)))) ∧
  (∀ (rom : SegRom) (bytes : List Byte), bytes.length ≠ 8 →
    decode rom ⟨.framedec, bytes⟩ = .reject .wrongLength)

/-- Decoding the request of a well-formed operation gives it back, for every allowed ROM and all 52 operations. -/
def Obligations.DecodeEncodeRoundTrip : Prop :=
  ∀ (rom : SegRom) (i : Instr), RomWf rom → i.wf rom = true → decode rom (encode rom i) = .instr i

/-- Each request that decodes has one meaning: encoding the decoded operation gives the request back, and the operation is well formed. -/
def Obligations.EncodeDecodeRoundTrip : Prop :=
  ∀ (rom : SegRom) (r : Request) (i : Instr), RomWf rom → decode rom r = .instr i →
    encode rom i = r ∧ i.wf rom = true

/-- A few words written from the formats and the table's match column. The lanes are log 1, and the last clause (a byte too wide for a pattern is rejected) is log 15. -/
def Obligations.WrittenOutWordsDecode : Prop :=
  decode refRom ⟨.framedec, [0x00, 0x00, 0x00, 0x72, 0xF9, 0xB5, 0x50, 0x00]⟩ =
    .instr (.framedec 0x0050B5F972000000) ∧
  decode refRom ⟨.segdec, [0x3F]⟩ = .instr (.segdec 0b0111111) ∧
  decode refRom ⟨.modeMap, [0x19]⟩ = .instr .mode19 ∧ decode refRom ⟨.modeMap, [0x11]⟩ = .instr (.modeUnrecognized 0x11) ∧
  decode refRom ⟨.romMap, [0x3F]⟩ = .instr .rom0 ∧ decode refRom ⟨.romMap, [0x40]⟩ = .instr .romDash ∧
  decode refRom ⟨.romMap, [0x3E]⟩ = .instr (.romUnrec 0x3E) ∧ decode refRom ⟨.bittest 3, [0x08]⟩ = .instr (.bittest 0x08 3) ∧
  decode refRom ⟨.segdec, [0xBF]⟩ = .reject .patternTooWide

/-- A step evaluates the operation that its first request decodes to (log 3). -/
def Obligations.StepRunsTheDecodedOperation : Prop :=
  (∀ (s : State) (r : Request) (rest : List Request) (i : Instr), s.program = r :: rest →
    decode s.segRom r = .instr i → step s = exec i { s with program := rest }) ∧
  (∀ s : State, s.program = [] → step s = .next s)

/-- A step never faults, and refuses exactly when its first request is no value of its port (log 15). -/
def Obligations.StepStopsOnlyOnAMalformedRequest : Prop :=
  ∀ s : State,
    (∀ x : Fault, step s ≠ .fault x) ∧
    (∀ x : Refusal, step s = .refused x ↔
      ∃ (r : Request) (rest : List Request) (why : Reject), s.program = r :: rest ∧
        decode s.segRom r = .reject why ∧ x = .badRequest why)

/-- R108, R136, R160: each of the 52 operations answers a next state with one more result, from every state and for all operands. -/
def Obligations.EveryOperationCompletes : Prop :=
  ∀ (i : Instr) (s : State), ∃ (t : State) (v : Value), exec i s = .next t ∧ t.results = s.results ++ [v] ∧
    t.program = s.program ∧ t.modeCodes = s.modeCodes ∧ t.segRom = s.segRom

/-- R27: after any operation, every operation gives the result it would have given before. -/
def Obligations.EvaluationsCarryNothingForward : Prop :=
  ∀ (i j : Instr) (s t : State), exec i s = .next t →
    ∃ v : Value, boundBy (exec j t) = some v ∧ boundBy (exec j s) = some v

/-- R51: two operations presented in either order give the same two results. -/
def Obligations.EvaluationOrderIsUnobservable : Prop :=
  ∀ (s : State) (q r : Request) (i j : Instr), s.program = [q, r] → decode s.segRom q = .instr i →
    decode s.segRom r = .instr j →
    ∃ (t t' : State) (v w : Value), Host.Core.run Sys2Proof.core 2 s = .next t ∧
      Host.Core.run Sys2Proof.core 2 { s with program := [r, q] } = .next t' ∧
      t.results = s.results ++ [v, w] ∧ t'.results = s.results ++ [w, v]

/-- A program of operations runs to its end, and binds for each operation, in order, the result it has by itself (log 3, log 4). -/
def Obligations.ProgramRunsToItsEnd : Prop :=
  ∀ s : State, s.Ready → ∃ t : State,
    Host.Core.run Sys2Proof.core s.program.length s = .next t ∧ t.program = [] ∧
    t.modeCodes = s.modeCodes ∧ t.segRom = s.segRom ∧
    ∃ vs : List Value, t.results = s.results ++ vs ∧
      List.Forall₂ (fun r v => ∃ i, decode s.segRom r = .instr i ∧ boundBy (exec i s) = some v) s.program vs

/-- Frame of BITTEST, MODEDEC, GLYPHS and the mode rows: no input, no output and no table changes (log 13). -/
def Obligations.PortlessOperationsChangeOnlyTheResult : Prop :=
  ∀ (i : Instr) (s t : State),
    ((∃ b n, i = .bittest b n) ∨ (∃ c, i = .modedec c) ∨ (∃ r, i = .glyphs r) ∨ (∃ c, i = .modeUnrecognized c) ∨
      i ∈ ([.mode00, .mode01, .mode02, .mode03, .mode04, .mode05, .mode06, .mode07, .mode08, .mode09,
     .mode0A, .mode0D, .mode10, .mode13, .mode14, .mode15, .mode16, .mode17, .mode19] : List Instr)) →
    exec i s = .next t →
    t.modeCodes = s.modeCodes ∧ t.segRom = s.segRom ∧ t.segPat = s.segPat ∧ t.frame = s.frame ∧
    t.program = s.program ∧ (∃ v, t.results = s.results ++ [v]) ∧
    t.glyphKnown = s.glyphKnown ∧ t.glyphChar = s.glyphChar ∧ t.resultWord = s.resultWord ∧
    ∀ k, t.glyphKnownK k = s.glyphKnownK k ∧ t.glyphCharK k = s.glyphCharK k

/-- R28, R107: SEGDEC and the ROM rows change seg_pat and nothing of the FRAMEDEC group. For the rows this is the model's reading (log 14, log 13). -/
def Obligations.PatternOperationsLeaveTheFrameGroup : Prop :=
  ∀ (i : Instr) (s t : State),
    ((∃ p, i = .segdec p) ∨ (∃ p, i = .romUnrec p) ∨
      i ∈ ([.rom0, .rom1, .rom2, .rom3, .rom4, .rom5, .rom6, .rom7, .rom8, .rom9, .romP, .romE,
     .romN, .romF, .romC, .romL, .romH1, .romH2, .romR, .romT, .romI, .romBlank, .romDash] : List Instr)) →
    exec i s = .next t →
    t.modeCodes = s.modeCodes ∧ t.segRom = s.segRom ∧ t.frame = s.frame ∧ t.program = s.program ∧
    boundBy (exec i s) = some (.glyph t.segGlyph) ∧ (∃ v, t.results = s.results ++ [v]) ∧
    t.ok = s.ok ∧ t.code = s.code ∧ (∀ k, t.digitPat k = s.digitPat k) ∧ t.dot = s.dot ∧
    ∀ k, t.glyphKnownK k = s.glyphKnownK k ∧ t.glyphCharK k = s.glyphCharK k

/-- R28: DIGEXT, DOTEXT, FRAMEDEC and DISPLAY change frame and nothing of the SEGDEC group (log 13). -/
def Obligations.FrameOperationsLeaveTheSegdecGroup : Prop :=
  ∀ (i : Instr) (f : Frame) (s t : State),
    ((∃ k, i = .digext k f) ∨ (∃ j, i = .dotext j f) ∨ i = .framedec f ∨ i = .display f) →
    exec i s = .next t →
    t.modeCodes = s.modeCodes ∧ t.segRom = s.segRom ∧ t.segPat = s.segPat ∧ t.frame = f ∧ t.program = s.program ∧
    (∃ v, t.results = s.results ++ [v]) ∧ t.glyphKnown = s.glyphKnown ∧ t.glyphChar = s.glyphChar

/-- I1: under the named hypothesis that the ROM is REF (not a source's fact), SEGDEC gives its 23 glyphs. -/
def Obligations.ReferenceFillGivesItsGlyphs : Prop :=
  ∀ s : State, s.segRom = refRom → ∀ e ∈ ([(0x3F, .d0), (0x06, .d1), (0x5B, .d2), (0x4F, .d3), (0x66, .d4), (0x6D, .d5),
     (0x7D, .d6), (0x07, .d7), (0x7F, .d8), (0x6F, .d9), (0x73, .letterP), (0x79, .letterE),
     (0x54, .letterN), (0x71, .letterF), (0x39, .letterC), (0x38, .letterL), (0x76, .letterH), (0x74, .letterH),
     (0x50, .letterR), (0x78, .letterT), (0x30, .letterI), (0x00, .blank), (0x40, .dash)] :
      List (Pattern × GlyphChar)),
    boundBy (exec (.segdec e.1) s) = some (.glyph (.char e.2))

/-- R101: the free patterns reach every ROM of R102 to R106 and no other (log 6). -/
def Obligations.FreeRomCoversEveryAllowedRom : Prop :=
  (∀ rom : SegRom, RomWf rom → ∃ v : Vector Pattern 22, distinctPatterns v = true ∧ rom = romFrom v) ∧
  (∀ v : Vector Pattern 22, distinctPatterns v = true → RomWf (romFrom v))

/-- C1: the corrected sample frame gives four '0's and no dots for every allowed ROM; the printed one gives 0x76 and all dots. -/
def Obligations.CorrectedSampleFrameShowsZeros : Prop :=
  ∀ s : State, s.TablesOk →
    boundBy (exec (.display 0x00D7D7D7D7000000) s) =
      some (.display (.ok ⟨0x00, #v[.char .d0, .char .d0, .char .d0, .char .d0], #v[false, false, false]⟩)) ∧
    boundBy (exec (.framedec 0x007E7E7E7E000000) s) =
      some (.frame (.ok ⟨0x00, #v[0x76, 0x76, 0x76, 0x76], #v[true, true, true]⟩))

/-- R42: the mode table read as 256 one-bit addresses. -/
def Obligations.ModeTableHoldsNineteenOnes : Prop :=
  ∀ s : State, s.TablesOk →
    ((List.range 256).filter fun n =>
      decide (boundBy (exec (.modedec (BitVec.ofNat 8 n)) s) = some (.mode (.ok (BitVec.ofNat 8 n))))).length = 19 ∧
    ((List.range 256).filter fun n => decide (boundBy (exec (.modedec (BitVec.ofNat 8 n)) s) =
      some (.mode (.err (.unrecognizedMode (BitVec.ofNat 8 n)))))).length = 237

/-- R43: bytes 1, 2 and 7 and bit 3 of byte 6 reach no result and no output, whatever ok is; R125: beside byte 0, dot[j] depends on its own bit alone and no digit pattern on a dot bit. For the unspecified outputs of a frame with ok = 0 this is the model's reading (log 10). -/
def Obligations.FrameOutputsIgnoreUnreadBits : Prop :=
  (∀ (s : State) (f f' : Frame),
    (∀ i : Fin 64, ¬(8 ≤ i.val ∧ i.val < 24) → i.val < 56 → i.val ≠ 51 → f.getLsbD i.val = f'.getLsbD i.val) →
    (∀ k, boundBy (exec (.digext k f) s) = boundBy (exec (.digext k f') s)) ∧
    (∀ j, boundBy (exec (.dotext j f) s) = boundBy (exec (.dotext j f') s)) ∧
    boundBy (exec (.framedec f) s) = boundBy (exec (.framedec f') s) ∧
    boundBy (exec (.display f) s) = boundBy (exec (.display f') s) ∧
    (s.driveFrame f).ok = (s.driveFrame f').ok ∧ (s.driveFrame f).resultWord = (s.driveFrame f').resultWord ∧
    (s.driveFrame f).code = (s.driveFrame f').code ∧ (s.driveFrame f).dot = (s.driveFrame f').dot ∧
    ∀ k, (s.driveFrame f).digitPat k = (s.driveFrame f').digitPat k ∧
      (s.driveFrame f).glyphKnownK k = (s.driveFrame f').glyphKnownK k ∧
      (s.driveFrame f).glyphCharK k = (s.driveFrame f').glyphCharK k) ∧
  (∀ (s : State) (f f' : Frame) (j : Fin 3),
    (∀ i : Fin 64, i.val < 8 ∨ i.val = 8 * (#v[5, 4, 3] : Vector Nat 3)[j] + 3 →
      f.getLsbD i.val = f'.getLsbD i.val) →
    (s.driveFrame f).dot.getLsbD j.val = (s.driveFrame f').dot.getLsbD j.val) ∧
  (∀ (s : State) (f f' : Frame) (k : Fin 4),
    (∀ i : Fin 64, i.val < 8 ∨ i.val % 8 ≠ 3 → f.getLsbD i.val = f'.getLsbD i.val) →
    (s.driveFrame f).digitPat k = (s.driveFrame f').digitPat k)

/-- The step lemma of a program: from a state whose requests all decode, a step evaluates the first one, binds its own result and answers such a state with the rest left (log 3, log 4). R27: the result is the one the operation has by itself. -/
def Obligations.ReadyStepEvaluatesItsRequest : Prop :=
  ∀ s : State, s.Ready →
    (∀ (r : Request) (rest : List Request), s.program = r :: rest →
      ∃ (t : State) (i : Instr) (v : Value), step s = .next t ∧ t.Ready ∧ t.program = rest ∧
        decode s.segRom r = .instr i ∧ boundBy (exec i s) = some v ∧ t.results = s.results ++ [v]) ∧
    (∀ t : State, step s = .next t → t.Ready)
end

