-- ==== Sys2Proof/Laws/Fields.lean ====
section
/-! SUPPORT. What the field operations read, bit by bit. -/

namespace Sys2Proof.Machine

@[simp] theorem byte_getLsbD (f : Frame) (i n : Nat) :
    (byte f i).getLsbD n = (decide (n < 8) && f.getLsbD (8 * i + n)) := by
  simp [byte, BitVec.getLsbD_extractLsb']

theorem bitTest_eq_getLsbD (b : Byte) (n : Nat) : bitTest b n = b.getLsbD n := by
  unfold bitTest
  split
  · rfl
  · exact (BitVec.getLsbD_of_ge b n (by omega)).symm

/-- The closed form of `gather` (R122). -/
theorem gather_eq (b : Byte) :
    gather b = BitVec.ofBool (b.getLsbD 5) ++ (BitVec.ofBool (b.getLsbD 1) ++ (BitVec.ofBool (b.getLsbD 2) ++
      (BitVec.ofBool (b.getLsbD 7) ++ (BitVec.ofBool (b.getLsbD 6) ++ (BitVec.ofBool (b.getLsbD 4) ++
        BitVec.ofBool (b.getLsbD 0)))))) := by
  unfold gather segmentBit
  simp only [bitTest_eq_getLsbD]
  rfl

/-- Segment `i` of a gathered byte is its bit `ORDER[i]` (R121). -/
theorem gather_getLsbD (b : Byte) (i : Fin 7) : (gather b).getLsbD i.val = b.getLsbD order[i] := by
  revert i b
  decide

/-- Bit `i` of digit `k` in the bits of the frame (R121). -/
theorem digExt_getLsbD (f : Frame) (k : Fin 4) (i : Fin 7) :
    (digExt f k).getLsbD i.val = f.getLsbD (8 * digitByte[k] + order[i]) := by
  have h : order[i] < 8 := by revert i; decide
  rw [digExt, gather_getLsbD, byte_getLsbD, decide_eq_true h, Bool.true_and]

/-- Dot flag `j` in the bits of the frame (R124). -/
theorem dotExt_eq (f : Frame) (j : Fin 3) : dotExt f j = f.getLsbD (8 * dotByte[j] + 3) := by
  rw [dotExt, bitTest_eq_getLsbD, byte_getLsbD]
  rfl

/-- What the frame fields read, said once: two frames that agree outside bytes 1, 2 and 7 and bit 3 of byte 6 have the same
mode byte, patterns and dots (20_memory.md R43). -/
theorem fields_congr {f f' : Frame}
    (h : ∀ i : Fin 64, ¬(8 ≤ i.val ∧ i.val < 24) → i.val < 56 → i.val ≠ 51 → f.getLsbD i.val = f'.getLsbD i.val) :
    byte f modeByte = byte f' modeByte ∧ (∀ k, digExt f k = digExt f' k) ∧ ∀ j, dotExt f j = dotExt f' j := by
  have hk : ∀ (k : Fin 4) (i : Fin 7), 24 ≤ 8 * digitByte[k] + order[i] ∧ 8 * digitByte[k] + order[i] < 56 ∧
      8 * digitByte[k] + order[i] ≠ 51 := by decide
  have hj : ∀ j : Fin 3, 24 ≤ 8 * dotByte[j] + 3 ∧ 8 * dotByte[j] + 3 < 51 := by decide
  refine ⟨BitVec.eq_of_getLsbD_eq fun i hi => ?_, fun k => BitVec.eq_of_getLsbD_eq fun i hi => ?_, fun j => ?_⟩
  · have := h ⟨i, by omega⟩ (by simp only; omega) (by simp only; omega) (by simp only; omega)
    rw [byte_getLsbD, byte_getLsbD]
    simpa [modeByte, hi] using this
  · rw [digExt_getLsbD f k ⟨i, hi⟩, digExt_getLsbD f' k ⟨i, hi⟩]
    obtain ⟨a, b, c⟩ := hk k ⟨i, hi⟩
    exact h ⟨_, by omega⟩ (by simp only; omega) b c
  · rw [dotExt_eq, dotExt_eq]
    obtain ⟨a, b⟩ := hj j
    exact h ⟨_, by omega⟩ (by simp only; omega) (by simp only; omega) (by simp only; omega)

theorem digitsOf_getElem (f : Frame) (k : Fin 4) : (digitsOf f)[k] = digExt f k := by
  fin_cases k <;> rfl

theorem dotsOf_getElem (f : Frame) (j : Fin 3) : (dotsOf f)[j] = dotExt f j := by
  fin_cases j <;> rfl

theorem dotVector_getLsbD (v : Vector Bool 3) (j : Fin 3) : (dotVector v).getLsbD j.val = v[j] := by
  have h : ∀ (a b c : Bool) (j : Fin 3),
      (BitVec.ofBool a ++ (BitVec.ofBool b ++ BitVec.ofBool c)).getLsbD j.val = (#v[c, b, a] : Vector Bool 3)[j] := by
    decide
  unfold dotVector
  rw [h]
  fin_cases j <;> rfl

end Sys2Proof.Machine
end

