-- ==== Sys2Proof/Laws/State.lean ====
section
/-! SUPPORT. One lemma per field per update of State, so that no later proof unfolds a record update. -/

namespace Sys2Proof.Machine

@[simp] theorem State.drivePattern_modeCodes (s : State) (p : Pattern) : (s.drivePattern p).modeCodes = s.modeCodes := rfl
@[simp] theorem State.drivePattern_segRom (s : State) (p : Pattern) : (s.drivePattern p).segRom = s.segRom := rfl
@[simp] theorem State.drivePattern_segPat (s : State) (p : Pattern) : (s.drivePattern p).segPat = p := rfl
@[simp] theorem State.drivePattern_frame (s : State) (p : Pattern) : (s.drivePattern p).frame = s.frame := rfl
@[simp] theorem State.drivePattern_program (s : State) (p : Pattern) : (s.drivePattern p).program = s.program := rfl
@[simp] theorem State.drivePattern_results (s : State) (p : Pattern) : (s.drivePattern p).results = s.results := rfl

@[simp] theorem State.driveFrame_modeCodes (s : State) (f : Frame) : (s.driveFrame f).modeCodes = s.modeCodes := rfl
@[simp] theorem State.driveFrame_segRom (s : State) (f : Frame) : (s.driveFrame f).segRom = s.segRom := rfl
@[simp] theorem State.driveFrame_segPat (s : State) (f : Frame) : (s.driveFrame f).segPat = s.segPat := rfl
@[simp] theorem State.driveFrame_frame (s : State) (f : Frame) : (s.driveFrame f).frame = f := rfl
@[simp] theorem State.driveFrame_program (s : State) (f : Frame) : (s.driveFrame f).program = s.program := rfl
@[simp] theorem State.driveFrame_results (s : State) (f : Frame) : (s.driveFrame f).results = s.results := rfl

@[simp] theorem State.bindResult_modeCodes (s : State) (v : Value) : (s.bindResult v).modeCodes = s.modeCodes := rfl
@[simp] theorem State.bindResult_segRom (s : State) (v : Value) : (s.bindResult v).segRom = s.segRom := rfl
@[simp] theorem State.bindResult_segPat (s : State) (v : Value) : (s.bindResult v).segPat = s.segPat := rfl
@[simp] theorem State.bindResult_frame (s : State) (v : Value) : (s.bindResult v).frame = s.frame := rfl
@[simp] theorem State.bindResult_program (s : State) (v : Value) : (s.bindResult v).program = s.program := rfl
@[simp] theorem State.bindResult_results (s : State) (v : Value) : (s.bindResult v).results = s.results ++ [v] := rfl

@[simp] theorem State.present_modeCodes (s : State) (rs : List Request) : (s.present rs).modeCodes = s.modeCodes := rfl
@[simp] theorem State.present_segRom (s : State) (rs : List Request) : (s.present rs).segRom = s.segRom := rfl
@[simp] theorem State.present_segPat (s : State) (rs : List Request) : (s.present rs).segPat = s.segPat := rfl
@[simp] theorem State.present_frame (s : State) (rs : List Request) : (s.present rs).frame = s.frame := rfl
@[simp] theorem State.present_program (s : State) (rs : List Request) : (s.present rs).program = rs := rfl
@[simp] theorem State.present_results (s : State) (rs : List Request) : (s.present rs).results = s.results := rfl

/-! The output ports under the updates that leave their inputs alone. -/

@[simp] theorem State.drivePattern_ok (s : State) (p : Pattern) : (s.drivePattern p).ok = s.ok := rfl
@[simp] theorem State.drivePattern_code (s : State) (p : Pattern) : (s.drivePattern p).code = s.code := rfl
@[simp] theorem State.drivePattern_dotFlag (s : State) (p : Pattern) (j : Fin 3) : (s.drivePattern p).dotFlag j = s.dotFlag j := rfl
@[simp] theorem State.drivePattern_dot (s : State) (p : Pattern) : (s.drivePattern p).dot = s.dot := rfl
@[simp] theorem State.drivePattern_resultWord (s : State) (p : Pattern) : (s.drivePattern p).resultWord = s.resultWord := rfl
@[simp] theorem State.drivePattern_digitPat (s : State) (p : Pattern) (k : Fin 4) : (s.drivePattern p).digitPat k = s.digitPat k := rfl
@[simp] theorem State.drivePattern_digitGlyph (s : State) (p : Pattern) (k : Fin 4) : (s.drivePattern p).digitGlyph k = s.digitGlyph k := rfl
@[simp] theorem State.drivePattern_glyphKnownK (s : State) (p : Pattern) (k : Fin 4) : (s.drivePattern p).glyphKnownK k = s.glyphKnownK k := rfl
@[simp] theorem State.drivePattern_glyphCharK (s : State) (p : Pattern) (k : Fin 4) : (s.drivePattern p).glyphCharK k = s.glyphCharK k := rfl

@[simp] theorem State.driveFrame_segGlyph (s : State) (f : Frame) : (s.driveFrame f).segGlyph = s.segGlyph := rfl
@[simp] theorem State.driveFrame_glyphKnown (s : State) (f : Frame) : (s.driveFrame f).glyphKnown = s.glyphKnown := rfl
@[simp] theorem State.driveFrame_glyphChar (s : State) (f : Frame) : (s.driveFrame f).glyphChar = s.glyphChar := rfl

@[simp] theorem State.bindResult_segGlyph (s : State) (v : Value) : (s.bindResult v).segGlyph = s.segGlyph := rfl
@[simp] theorem State.bindResult_glyphKnown (s : State) (v : Value) : (s.bindResult v).glyphKnown = s.glyphKnown := rfl
@[simp] theorem State.bindResult_glyphChar (s : State) (v : Value) : (s.bindResult v).glyphChar = s.glyphChar := rfl
@[simp] theorem State.bindResult_ok (s : State) (v : Value) : (s.bindResult v).ok = s.ok := rfl
@[simp] theorem State.bindResult_code (s : State) (v : Value) : (s.bindResult v).code = s.code := rfl
@[simp] theorem State.bindResult_dotFlag (s : State) (v : Value) (j : Fin 3) : (s.bindResult v).dotFlag j = s.dotFlag j := rfl
@[simp] theorem State.bindResult_dot (s : State) (v : Value) : (s.bindResult v).dot = s.dot := rfl
@[simp] theorem State.bindResult_resultWord (s : State) (v : Value) : (s.bindResult v).resultWord = s.resultWord := rfl
@[simp] theorem State.bindResult_digitPat (s : State) (v : Value) (k : Fin 4) : (s.bindResult v).digitPat k = s.digitPat k := rfl
@[simp] theorem State.bindResult_digitGlyph (s : State) (v : Value) (k : Fin 4) : (s.bindResult v).digitGlyph k = s.digitGlyph k := rfl
@[simp] theorem State.bindResult_glyphKnownK (s : State) (v : Value) (k : Fin 4) : (s.bindResult v).glyphKnownK k = s.glyphKnownK k := rfl
@[simp] theorem State.bindResult_glyphCharK (s : State) (v : Value) (k : Fin 4) : (s.bindResult v).glyphCharK k = s.glyphCharK k := rfl

@[simp] theorem State.present_segGlyph (s : State) (rs : List Request) : (s.present rs).segGlyph = s.segGlyph := rfl
@[simp] theorem State.present_glyphKnown (s : State) (rs : List Request) : (s.present rs).glyphKnown = s.glyphKnown := rfl
@[simp] theorem State.present_glyphChar (s : State) (rs : List Request) : (s.present rs).glyphChar = s.glyphChar := rfl
@[simp] theorem State.present_ok (s : State) (rs : List Request) : (s.present rs).ok = s.ok := rfl
@[simp] theorem State.present_code (s : State) (rs : List Request) : (s.present rs).code = s.code := rfl
@[simp] theorem State.present_dotFlag (s : State) (rs : List Request) (j : Fin 3) : (s.present rs).dotFlag j = s.dotFlag j := rfl
@[simp] theorem State.present_dot (s : State) (rs : List Request) : (s.present rs).dot = s.dot := rfl
@[simp] theorem State.present_resultWord (s : State) (rs : List Request) : (s.present rs).resultWord = s.resultWord := rfl
@[simp] theorem State.present_digitPat (s : State) (rs : List Request) (k : Fin 4) : (s.present rs).digitPat k = s.digitPat k := rfl
@[simp] theorem State.present_digitGlyph (s : State) (rs : List Request) (k : Fin 4) : (s.present rs).digitGlyph k = s.digitGlyph k := rfl
@[simp] theorem State.present_glyphKnownK (s : State) (rs : List Request) (k : Fin 4) : (s.present rs).glyphKnownK k = s.glyphKnownK k := rfl
@[simp] theorem State.present_glyphCharK (s : State) (rs : List Request) (k : Fin 4) : (s.present rs).glyphCharK k = s.glyphCharK k := rfl

end Sys2Proof.Machine
end

