-- ==== Sys2Proof/Laws/Ops.lean ====
section
/-! SUPPORT. One lemma for each shared operation: what it answers in each case, and what an operation or a step can do. -/

namespace Sys2Proof.Machine

/-- A matching entry of a ROM with distinct patterns settles the read (R103, R107). -/
theorem romRead_of_mem {rom : SegRom} {p : Pattern} {g : Glyph} (hd : (rom.toList.map Prod.fst).Nodup)
    (h : (p, g) ∈ rom.toList) : romRead rom p = g := by
  unfold romRead
  generalize rom.toList = l at hd h
  induction l with
  | nil => simp at h
  | cons e l ih =>
    rw [List.map_cons, List.nodup_cons] at hd
    rcases List.mem_cons.mp h with rfl | h
    · simp
    · have hne : (e.1 == p) = false := by
        rw [beq_eq_false_iff_ne]
        intro he
        exact hd.1 (he ▸ List.mem_map_of_mem (f := Prod.fst) h)
      simpa [List.find?_cons, hne] using ih hd.2 h

/-- Without a matching entry the read gives UNREC (R107). -/
theorem romRead_of_not_mem {rom : SegRom} {p : Pattern} (h : ∀ e ∈ rom.toList, e.1 ≠ p) : romRead rom p = .unrec := by
  have : rom.toList.find? (fun e => e.1 == p) = none := by
    rw [List.find?_eq_none]
    intro e he
    simpa using h e he
  simp [romRead, this]

theorem romRead_getElem {rom : SegRom} (hd : (rom.toList.map Prod.fst).Nodup) (k : Fin 23) :
    romRead rom rom[k].1 = rom[k].2 :=
  romRead_of_mem hd (by simp)

/-- The glyph of entry `k` of an allowed ROM (R104). -/
theorem romWf_glyph {rom : SegRom} (h : RomWf rom) (k : Fin 23) :
    rom[k].2 = romGlyphs[k.val]'(k.isLt) := by
  have hl : k.val < (rom.toList.map Prod.snd).length := by simp
  have : (rom.toList.map Prod.snd)[k.val]'hl = rom[k].2 := by simp
  rw [← this]
  simp only [h.1]
  rfl

/-- Two entries of an allowed ROM with one pattern are one entry (R103). -/
theorem romWf_inj {rom : SegRom} (h : RomWf rom) {j k : Fin 23} (e : rom[j].1 = rom[k].1) : j = k := by
  have hn := h.2.2
  rw [List.nodup_iff_injective_get] at hn
  have := @hn ⟨j.val, by simp⟩ ⟨k.val, by simp⟩ (by simpa using e)
  exact Fin.ext (by simpa using this)

/-- A ROM built from distinct patterns is allowed (R102 to R106). -/
theorem romFrom_wf {v : Vector Pattern 22} (h : distinctPatterns v = true) : RomWf (romFrom v) := by
  obtain ⟨⟨l⟩, hl⟩ := v
  refine ⟨rfl, rfl, ?_⟩
  simp only [distinctPatterns, decide_eq_true_eq] at h
  match l, hl with
  | [a0, a1, a2, a3, a4, a5, a6, a7, a8, a9, a10, a11, a12, a13, a14, a15, a16, a17, a18, a19, a20, a21], _ => exact h

/-- MODEDEC in its two cases (R130). -/
theorem modeDec_of_mem {codes : List Byte} {c : Byte} (h : c ∈ codes) : modeDec codes c = .ok c := by
  simp [modeDec, modeBit, h]

theorem modeDec_of_not_mem {codes : List Byte} {c : Byte} (h : c ∉ codes) :
    modeDec codes c = .err (.unrecognizedMode c) := by
  simp [modeDec, modeBit, raiseUnrecognizedMode, h]

/-- FRAMEDEC in its two cases (R133). -/
theorem frameDec_of_mem {codes : List Byte} {f : Frame} (h : byte f modeByte ∈ codes) :
    frameDec codes f = .ok { mode := byte f modeByte, digits := digitsOf f, dots := dotsOf f } := by
  simp [frameDec, modeDec_of_mem h]

theorem frameDec_of_not_mem {codes : List Byte} {f : Frame} (h : byte f modeByte ∉ codes) :
    frameDec codes f = .err (.unrecognizedMode (byte f modeByte)) := by
  simp [frameDec, modeDec_of_not_mem h]

/-- The FRAMEDEC outputs when `ok = 1` (R121, R124). -/
theorem State.digitPat_of_ok {s : State} (h : s.ok = true) (k : Fin 4) : s.digitPat k = digExt s.frame k := by
  simp [State.digitPat, h]

theorem State.dotFlag_of_ok {s : State} (h : s.ok = true) (j : Fin 3) : s.dotFlag j = dotExt s.frame j := by
  simp [State.dotFlag, h]

theorem State.dot_getLsbD (s : State) (j : Fin 3) : s.dot.getLsbD j.val = s.dotFlag j := by
  rw [State.dot, dotVector_getLsbD]
  fin_cases j <;> rfl

theorem State.dot_of_ok {s : State} (h : s.ok = true) : s.dot = dotVector (dotsOf s.frame) := by
  simp [State.dot, State.dotFlag_of_ok h, dotsOf]

@[simp] theorem boundBy_next_bindResult (s : State) (v : Value) : boundBy (.next (s.bindResult v)) = some v := by
  simp [boundBy]

@[simp] theorem evalSegdec_eq (p : Pattern) (s : State) :
    evalSegdec p s = .next ((s.drivePattern p).bindResult (.glyph (romRead s.segRom p))) := rfl

@[simp] theorem evalRomRow_eq (k : Fin 23) (s : State) :
    evalRomRow k s = .next ((s.drivePattern s.segRom[k].1).bindResult (.glyph (romRead s.segRom s.segRom[k].1))) := rfl

@[simp] theorem evalModedec_eq (c : Byte) (s : State) :
    evalModedec c s = .next (s.bindResult (.mode (modeDec s.modeCodes c))) := rfl

@[simp] theorem evalOnFrame_eq (f : Frame) (v : Value) (s : State) :
    evalOnFrame f v s = .next ((s.driveFrame f).bindResult v) := rfl

/-- Everything an operation can do, said once: from any state it binds one result `v`, after driving no input, the
pattern input or the frame input, and `v` and the driven value depend on the two tables alone. -/
theorem exec_shape (i : Instr) (codes : List Byte) (rom : SegRom) : ∃ v : Value,
    (∀ s : State, s.modeCodes = codes → s.segRom = rom → exec i s = .next (s.bindResult v)) ∨
    (∃ p, ∀ s : State, s.modeCodes = codes → s.segRom = rom → exec i s = .next ((s.drivePattern p).bindResult v)) ∨
    (∃ f, ∀ s : State, s.modeCodes = codes → s.segRom = rom → exec i s = .next ((s.driveFrame f).bindResult v)) := by
  cases i with
  | segdec p => exact ⟨.glyph (romRead rom p), .inr (.inl ⟨p, by rintro s rfl rfl; rfl⟩)⟩
  | bittest b n => exact ⟨.bit (bitTest b n), .inl (by rintro s rfl rfl; rfl)⟩
  | digext k f => exact ⟨.pattern (digExt f k), .inr (.inr ⟨f, by rintro s rfl rfl; rfl⟩)⟩
  | dotext j f => exact ⟨.bit (dotExt f j), .inr (.inr ⟨f, by rintro s rfl rfl; rfl⟩)⟩
  | modedec c => exact ⟨.mode (modeDec codes c), .inl (by rintro s rfl rfl; rfl)⟩
  | framedec f => exact ⟨.frame (frameDec codes f), .inr (.inr ⟨f, by rintro s rfl rfl; rfl⟩)⟩
  | glyphs r => exact ⟨.glyphs (glyphsOf rom r), .inl (by rintro s rfl rfl; rfl)⟩
  | display f => exact ⟨.display (displayOf codes rom f), .inr (.inr ⟨f, by rintro s rfl rfl; rfl⟩)⟩
  | modeUnrecognized c => exact ⟨.mode (modeDec codes c), .inl (by rintro s rfl rfl; rfl)⟩
  | romUnrec p => exact ⟨.glyph (romRead rom p), .inr (.inl ⟨p, by rintro s rfl rfl; rfl⟩)⟩
  | rom0 => exact ⟨.glyph (romRead rom 0x3F), .inr (.inl ⟨0x3F, by rintro s rfl rfl; rfl⟩)⟩
  | mode00 => exact ⟨.mode (modeDec codes 0x00), .inl (by rintro s rfl rfl; rfl)⟩
  | mode01 => exact ⟨.mode (modeDec codes 0x01), .inl (by rintro s rfl rfl; rfl)⟩
  | mode02 => exact ⟨.mode (modeDec codes 0x02), .inl (by rintro s rfl rfl; rfl)⟩
  | mode03 => exact ⟨.mode (modeDec codes 0x03), .inl (by rintro s rfl rfl; rfl)⟩
  | mode04 => exact ⟨.mode (modeDec codes 0x04), .inl (by rintro s rfl rfl; rfl)⟩
  | mode05 => exact ⟨.mode (modeDec codes 0x05), .inl (by rintro s rfl rfl; rfl)⟩
  | mode06 => exact ⟨.mode (modeDec codes 0x06), .inl (by rintro s rfl rfl; rfl)⟩
  | mode07 => exact ⟨.mode (modeDec codes 0x07), .inl (by rintro s rfl rfl; rfl)⟩
  | mode08 => exact ⟨.mode (modeDec codes 0x08), .inl (by rintro s rfl rfl; rfl)⟩
  | mode09 => exact ⟨.mode (modeDec codes 0x09), .inl (by rintro s rfl rfl; rfl)⟩
  | mode0A => exact ⟨.mode (modeDec codes 0x0A), .inl (by rintro s rfl rfl; rfl)⟩
  | mode0D => exact ⟨.mode (modeDec codes 0x0D), .inl (by rintro s rfl rfl; rfl)⟩
  | mode10 => exact ⟨.mode (modeDec codes 0x10), .inl (by rintro s rfl rfl; rfl)⟩
  | mode13 => exact ⟨.mode (modeDec codes 0x13), .inl (by rintro s rfl rfl; rfl)⟩
  | mode14 => exact ⟨.mode (modeDec codes 0x14), .inl (by rintro s rfl rfl; rfl)⟩
  | mode15 => exact ⟨.mode (modeDec codes 0x15), .inl (by rintro s rfl rfl; rfl)⟩
  | mode16 => exact ⟨.mode (modeDec codes 0x16), .inl (by rintro s rfl rfl; rfl)⟩
  | mode17 => exact ⟨.mode (modeDec codes 0x17), .inl (by rintro s rfl rfl; rfl)⟩
  | mode19 => exact ⟨.mode (modeDec codes 0x19), .inl (by rintro s rfl rfl; rfl)⟩
  | rom1 => exact ⟨.glyph (romRead rom rom[1].1), .inr (.inl ⟨rom[1].1, by rintro s rfl rfl; rfl⟩)⟩
  | rom2 => exact ⟨.glyph (romRead rom rom[2].1), .inr (.inl ⟨rom[2].1, by rintro s rfl rfl; rfl⟩)⟩
  | rom3 => exact ⟨.glyph (romRead rom rom[3].1), .inr (.inl ⟨rom[3].1, by rintro s rfl rfl; rfl⟩)⟩
  | rom4 => exact ⟨.glyph (romRead rom rom[4].1), .inr (.inl ⟨rom[4].1, by rintro s rfl rfl; rfl⟩)⟩
  | rom5 => exact ⟨.glyph (romRead rom rom[5].1), .inr (.inl ⟨rom[5].1, by rintro s rfl rfl; rfl⟩)⟩
  | rom6 => exact ⟨.glyph (romRead rom rom[6].1), .inr (.inl ⟨rom[6].1, by rintro s rfl rfl; rfl⟩)⟩
  | rom7 => exact ⟨.glyph (romRead rom rom[7].1), .inr (.inl ⟨rom[7].1, by rintro s rfl rfl; rfl⟩)⟩
  | rom8 => exact ⟨.glyph (romRead rom rom[8].1), .inr (.inl ⟨rom[8].1, by rintro s rfl rfl; rfl⟩)⟩
  | rom9 => exact ⟨.glyph (romRead rom rom[9].1), .inr (.inl ⟨rom[9].1, by rintro s rfl rfl; rfl⟩)⟩
  | romP => exact ⟨.glyph (romRead rom rom[10].1), .inr (.inl ⟨rom[10].1, by rintro s rfl rfl; rfl⟩)⟩
  | romE => exact ⟨.glyph (romRead rom rom[11].1), .inr (.inl ⟨rom[11].1, by rintro s rfl rfl; rfl⟩)⟩
  | romN => exact ⟨.glyph (romRead rom rom[12].1), .inr (.inl ⟨rom[12].1, by rintro s rfl rfl; rfl⟩)⟩
  | romF => exact ⟨.glyph (romRead rom rom[13].1), .inr (.inl ⟨rom[13].1, by rintro s rfl rfl; rfl⟩)⟩
  | romC => exact ⟨.glyph (romRead rom rom[14].1), .inr (.inl ⟨rom[14].1, by rintro s rfl rfl; rfl⟩)⟩
  | romL => exact ⟨.glyph (romRead rom rom[15].1), .inr (.inl ⟨rom[15].1, by rintro s rfl rfl; rfl⟩)⟩
  | romH1 => exact ⟨.glyph (romRead rom rom[16].1), .inr (.inl ⟨rom[16].1, by rintro s rfl rfl; rfl⟩)⟩
  | romH2 => exact ⟨.glyph (romRead rom rom[17].1), .inr (.inl ⟨rom[17].1, by rintro s rfl rfl; rfl⟩)⟩
  | romR => exact ⟨.glyph (romRead rom rom[18].1), .inr (.inl ⟨rom[18].1, by rintro s rfl rfl; rfl⟩)⟩
  | romT => exact ⟨.glyph (romRead rom rom[19].1), .inr (.inl ⟨rom[19].1, by rintro s rfl rfl; rfl⟩)⟩
  | romI => exact ⟨.glyph (romRead rom rom[20].1), .inr (.inl ⟨rom[20].1, by rintro s rfl rfl; rfl⟩)⟩
  | romBlank => exact ⟨.glyph (romRead rom rom[21].1), .inr (.inl ⟨rom[21].1, by rintro s rfl rfl; rfl⟩)⟩
  | romDash => exact ⟨.glyph (romRead rom rom[22].1), .inr (.inl ⟨rom[22].1, by rintro s rfl rfl; rfl⟩)⟩

/-- Everything a step can do, said once: nothing when no request is presented, the refusal of a malformed request, or the
decoded operation. -/
theorem step_cases (s : State) :
    (s.program = [] ∧ step s = .next s) ∨
    (∃ r rest why, s.program = r :: rest ∧ decode s.segRom r = .reject why ∧ step s = .refused (.badRequest why)) ∨
    (∃ r rest i, s.program = r :: rest ∧ decode s.segRom r = .instr i ∧ step s = exec i (s.present rest)) := by
  unfold step
  cases hp : s.program with
  | nil => exact .inl ⟨rfl, rfl⟩
  | cons r rest =>
    cases hd : decode s.segRom r with
    | instr i => exact .inr (.inr ⟨r, rest, i, rfl, hd, by simp [hd]⟩)
    | reject why => exact .inr (.inl ⟨r, rest, why, rfl, hd, by simp [hd]⟩)

end Sys2Proof.Machine
end

