-- ==== Sys2Proof/Laws/Codec.lean ====
section
/-! SUPPORT. Bytes and formats: a frame and its eight bytes, a RESULT tuple and its five bytes and its fields, a pattern
and its byte, and what the format decoders answer. -/

namespace Sys2Proof.Machine

set_option maxRecDepth 10000

/-- Where the fields of a RESULT tuple stand (R67). -/
theorem packResult_fields (ok : Bool) (c : Byte) (d0 d1 d2 d3 : Pattern) (dot : Dots) :
   let w := packResult ok c #v[d0,d1,d2,d3] dot
   w.getLsbD 39 = ok ∧ w.extractLsb' 31 8 = c ∧ w.extractLsb' 24 7 = d0 ∧ w.extractLsb' 17 7 = d1 ∧ w.extractLsb' 10 7 = d2 ∧ w.extractLsb' 3 7 = d3 ∧ w.extractLsb' 0 3 = dot := by
  unfold packResult
  refine ⟨?_, ?_, ?_, ?_, ?_, ?_, ?_⟩
  · simp only [BitVec.getLsbD_append]; cases ok <;> rfl
  all_goals
    apply BitVec.eq_of_getLsbD_eq
    intro i hi
    simp only [BitVec.getLsbD_extractLsb', BitVec.getLsbD_append, hi, decide_true, Bool.true_and]
    interval_cases i <;> rfl


theorem dot_of_resultWord (w : BitVec 40) (j : Fin 3) : w.getLsbD j.val = (w.extractLsb' 0 3).getLsbD j.val := by
  rw [BitVec.getLsbD_extractLsb', decide_eq_true j.isLt, Bool.true_and, Nat.zero_add]

/-- The eight lanes of eight bytes put together (R61). -/
theorem bytes_of_append (b0 b1 b2 b3 b4 b5 b6 b7 : Byte) (f : Frame) (h : f = b7 ++ (b6 ++ (b5 ++ (b4 ++ (b3 ++ (b2 ++ (b1 ++ b0)))))) ) :
    [f.extractLsb' 0 8, f.extractLsb' 8 8, f.extractLsb' 16 8, f.extractLsb' 24 8, f.extractLsb' 32 8,
      f.extractLsb' 40 8, f.extractLsb' 48 8, f.extractLsb' 56 8] = [b0, b1, b2, b3, b4, b5, b6, b7] := by
  subst h
  simp only [List.cons.injEq, and_true]
  refine ⟨?_,?_,?_,?_,?_,?_,?_,?_⟩ <;>
  · apply BitVec.eq_of_getLsbD_eq
    intro i hi
    simp only [BitVec.getLsbD_extractLsb', BitVec.getLsbD_append, hi, decide_true, Bool.true_and]
    interval_cases i <;> rfl


/-- The bytes of a frame give the frame. -/
theorem frameOf_frameBytes (f : Frame) : frameOf (frameBytes f) = some f := by
  simp only [frameOf, frameBytes, byte]
  congr 1
  apply BitVec.eq_of_getLsbD_eq
  intro i hi
  simp only [BitVec.getLsbD_extractLsb', BitVec.getLsbD_append]
  interval_cases i <;> rfl

theorem frameBytes_of_frameOf {l : List Byte} {f : Frame} (h : frameOf l = some f) : frameBytes f = l := by
  unfold frameOf at h; split at h
  · cases h; exact bytes_of_append _ _ _ _ _ _ _ _ _ rfl
  · cases h

theorem resultOf_resultBytes (w : BitVec 40) : resultOf (resultBytes w) = some w := by
  simp only [resultOf, resultBytes]
  congr 1
  apply BitVec.eq_of_getLsbD_eq
  intro i hi
  simp only [BitVec.getLsbD_extractLsb', BitVec.getLsbD_append]
  interval_cases i <;> rfl

theorem resultBytes_of_resultOf {l : List Byte} {w : BitVec 40} (h : resultOf l = some w) : resultBytes w = l := by
  unfold resultOf at h; split at h
  · cases h
    simp only [resultBytes, List.cons.injEq, and_true]
    refine ⟨?_,?_,?_,?_,?_⟩ <;>
    · apply BitVec.eq_of_getLsbD_eq
      intro i hi
      simp only [BitVec.getLsbD_extractLsb', BitVec.getLsbD_append, hi, decide_true, Bool.true_and]
      interval_cases i <;> rfl
  · cases h

theorem vector4_eta {α} (v : Vector α 4) : v = #v[v[0], v[1], v[2], v[3]] := by
  obtain ⟨⟨l⟩, hl⟩ := v
  match l, hl with
  | [a,b,c,d], _ => rfl

theorem vector3_eta {α} (v : Vector α 3) : v = #v[v[0], v[1], v[2]] := by
  obtain ⟨⟨l⟩, hl⟩ := v
  match l, hl with
  | [a,b,c], _ => rfl

/-- The RESULT tuple of a Reading holds the Reading, with `ok = 1` (R67). -/
theorem resultReading_packReading (r : Reading) : resultReading (packReading r) = r ∧ resultOk (packReading r) = true := by
  obtain ⟨m, d, t⟩ := r
  rw [vector4_eta d, vector3_eta t]
  generalize d[0] = d0, d[1] = d1, d[2] = d2, d[3] = d3, t[0] = t0, t[1] = t1, t[2] = t2
  have k := packResult_fields true m d0 d1 d2 d3 (dotVector #v[t0,t1,t2])
  obtain ⟨k0,k1,k2,k3,k4,k5,k6⟩ := k
  refine ⟨?_, k0⟩
  unfold packReading
  show resultReading (packResult true m #v[d0,d1,d2,d3] (dotVector #v[t0,t1,t2])) = _
  generalize packResult true m #v[d0,d1,d2,d3] (dotVector #v[t0,t1,t2]) = w at *
  have db : ∀ j : Fin 3, w.getLsbD j.val = (#v[t0,t1,t2])[j] := by
    intro j
    rw [← dotVector_getLsbD, dot_of_resultWord, k6]
  have e0 : w.getLsbD 0 = t0 := db 0
  have e1 : w.getLsbD 1 = t1 := db 1
  have e2 : w.getLsbD 2 = t2 := db 2
  clear db
  simp only [resultReading, e0,e1,e2,k1,k2,k3,k4,k5]

theorem patternByte_spec : ∀ p : Pattern, (patternByte p).getLsbD 7 = false ∧ (patternByte p).setWidth 7 = p := by decide

theorem patternByte_setWidth : ∀ b : Byte, b.getLsbD 7 = false → patternByte (b.setWidth 7) = b := by decide

theorem decodePattern_patternByte (mk : Pattern → Instr) (p : Pattern) : decodePattern mk [patternByte p] = .instr (mk p) := by
  simp only [decodePattern, oneByte, patternByte_spec]; rfl

theorem decodeFrame_frameBytes (mk : Frame → Instr) (f : Frame) : decodeFrame mk (frameBytes f) = .instr (mk f) := by
  simp only [decodeFrame, frameOf_frameBytes]

theorem oneByte_inv {l : List Byte} {b} (h : oneByte l = some b) : l = [b] := by
  unfold oneByte at h; split at h
  · cases h; rfl
  · cases h

theorem decodePattern_inv {mk : Pattern → Instr} {l i} (h : decodePattern mk l = .instr i) : ∃ p, i = mk p ∧ l = [patternByte p] := by
  unfold decodePattern at h; split at h
  · rename_i b hb
    split at h
    · cases h
    · rename_i h7
      cases h; exact ⟨_, rfl, by rw [oneByte_inv hb, patternByte_setWidth b (by simpa using h7)]⟩
  · cases h

theorem decodeByte_inv {mk : Byte → Instr} {l i} (h : decodeByte mk l = .instr i) : ∃ b, i = mk b ∧ l = [b] := by
  unfold decodeByte at h; split at h
  · rename_i b hb; cases h; exact ⟨b, rfl, oneByte_inv hb⟩
  · cases h

theorem decodeFrame_inv {mk : Frame → Instr} {l i} (h : decodeFrame mk l = .instr i) : ∃ f, i = mk f ∧ l = frameBytes f := by
  unfold decodeFrame at h; split at h
  · rename_i f hf; cases h; exact ⟨f, rfl, (frameBytes_of_frameOf hf).symm⟩
  · cases h

/-- The rows of the segment ROM decode map inverted: what a selected row says of the pattern (R71). -/
theorem decodeRom_inv {rom : SegRom} {p : Pattern} {i : Instr} (hi : decodeRom rom p = i) :
    (i = .rom0 ∧ p = 0x3F) ∨ p ≠ 0x3F ∧ (
    (i = .rom1 ∧ p = rom[1].1) ∨
    (i = .rom2 ∧ p = rom[2].1) ∨
    (i = .rom3 ∧ p = rom[3].1) ∨
    (i = .rom4 ∧ p = rom[4].1) ∨
    (i = .rom5 ∧ p = rom[5].1) ∨
    (i = .rom6 ∧ p = rom[6].1) ∨
    (i = .rom7 ∧ p = rom[7].1) ∨
    (i = .rom8 ∧ p = rom[8].1) ∨
    (i = .rom9 ∧ p = rom[9].1) ∨
    (i = .romP ∧ p = rom[10].1) ∨
    (i = .romE ∧ p = rom[11].1) ∨
    (i = .romN ∧ p = rom[12].1) ∨
    (i = .romF ∧ p = rom[13].1) ∨
    (i = .romC ∧ p = rom[14].1) ∨
    (i = .romL ∧ p = rom[15].1) ∨
    (i = .romH1 ∧ p = rom[16].1) ∨
    (i = .romH2 ∧ p = rom[17].1) ∨
    (i = .romR ∧ p = rom[18].1) ∨
    (i = .romT ∧ p = rom[19].1) ∨
    (i = .romI ∧ p = rom[20].1) ∨
    (i = .romBlank ∧ p = rom[21].1) ∨
    (i = .romDash ∧ p = rom[22].1) ∨
    (i = .romUnrec p ∧ ∀ k : Fin 23, k ≠ 0 → p ≠ rom[k].1)) := by
  unfold decodeRom at hi
  rw [ite_eq_iff] at hi
  rcases hi with ⟨hp, rfl⟩ | ⟨h0, hi⟩
  · exact .inl ⟨rfl, hp⟩
  refine .inr ⟨h0, ?_⟩
  iterate 22
    rw [ite_eq_iff] at hi
    rcases hi with ⟨hp, rfl⟩ | ⟨hp, hi⟩
    · exact .inl ⟨rfl, hp⟩
    refine .inr ?_
  refine ⟨hi.symm, fun k hk hpk => ?_⟩
  fin_cases k
  · exact hk rfl
  all_goals exact absurd hpk (by assumption)

/-- One more step of a run. -/
theorem run_succ (n : Nat) (s t : Sys2Proof.core.State) (h : Sys2Proof.core.step s = .next t) :
    Host.Core.run Sys2Proof.core (n + 1) s = Host.Core.run Sys2Proof.core n t := by
  rw [Host.Core.run, h]

end Sys2Proof.Machine
end

