-- ==== Sys2Proof/Laws/PerInstr.lean ====
section
/-! SUPPORT. Statements made for each operation as syntax, one lemma per constructor. -/

namespace Sys2Proof.Laws.EncodeLength

/-- The number of bytes of a lane's format: one for a pattern or a byte (R62, R64), eight for a frame (R61), five for a
RESULT tuple (R67; log 11). -/
def laneBytes : Lane → Nat
  | .segdec => 1 | .bittest _ => 1 | .modedec => 1 | .modeMap => 1 | .romMap => 1
  | .digext _ => 8 | .dotext _ => 8 | .framedec => 8 | .display => 8
  | .glyphs => 5

/-- The encoding of an operation has the fixed length of its format (30_encoding.md R60, R74). -/
def Statement (i : Instr) : Prop := ∀ rom : SegRom, (encode rom i).bytes.length = laneBytes (encode rom i).lane

theorem segdec (p : Pattern) : Statement (.segdec p) := fun _ => rfl
theorem bittest (b : Byte) (n : Nat) : Statement (.bittest b n) := fun _ => rfl
theorem digext (k : Fin 4) (f : Frame) : Statement (.digext k f) := fun _ => rfl
theorem dotext (j : Fin 3) (f : Frame) : Statement (.dotext j f) := fun _ => rfl
theorem modedec (c : Byte) : Statement (.modedec c) := fun _ => rfl
theorem framedec (f : Frame) : Statement (.framedec f) := fun _ => rfl
theorem glyphs (r : Reading) : Statement (.glyphs r) := fun _ => rfl
theorem display (f : Frame) : Statement (.display f) := fun _ => rfl
theorem mode00 : Statement .mode00 := fun _ => rfl
theorem mode01 : Statement .mode01 := fun _ => rfl
theorem mode02 : Statement .mode02 := fun _ => rfl
theorem mode03 : Statement .mode03 := fun _ => rfl
theorem mode04 : Statement .mode04 := fun _ => rfl
theorem mode05 : Statement .mode05 := fun _ => rfl
theorem mode06 : Statement .mode06 := fun _ => rfl
theorem mode07 : Statement .mode07 := fun _ => rfl
theorem mode08 : Statement .mode08 := fun _ => rfl
theorem mode09 : Statement .mode09 := fun _ => rfl
theorem mode0A : Statement .mode0A := fun _ => rfl
theorem mode0D : Statement .mode0D := fun _ => rfl
theorem mode10 : Statement .mode10 := fun _ => rfl
theorem mode13 : Statement .mode13 := fun _ => rfl
theorem mode14 : Statement .mode14 := fun _ => rfl
theorem mode15 : Statement .mode15 := fun _ => rfl
theorem mode16 : Statement .mode16 := fun _ => rfl
theorem mode17 : Statement .mode17 := fun _ => rfl
theorem mode19 : Statement .mode19 := fun _ => rfl
theorem modeUnrecognized (c : Byte) : Statement (.modeUnrecognized c) := fun _ => rfl
theorem rom0 : Statement .rom0 := fun _ => rfl
theorem rom1 : Statement .rom1 := fun _ => rfl
theorem rom2 : Statement .rom2 := fun _ => rfl
theorem rom3 : Statement .rom3 := fun _ => rfl
theorem rom4 : Statement .rom4 := fun _ => rfl
theorem rom5 : Statement .rom5 := fun _ => rfl
theorem rom6 : Statement .rom6 := fun _ => rfl
theorem rom7 : Statement .rom7 := fun _ => rfl
theorem rom8 : Statement .rom8 := fun _ => rfl
theorem rom9 : Statement .rom9 := fun _ => rfl
theorem romP : Statement .romP := fun _ => rfl
theorem romE : Statement .romE := fun _ => rfl
theorem romN : Statement .romN := fun _ => rfl
theorem romF : Statement .romF := fun _ => rfl
theorem romC : Statement .romC := fun _ => rfl
theorem romL : Statement .romL := fun _ => rfl
theorem romH1 : Statement .romH1 := fun _ => rfl
theorem romH2 : Statement .romH2 := fun _ => rfl
theorem romR : Statement .romR := fun _ => rfl
theorem romT : Statement .romT := fun _ => rfl
theorem romI : Statement .romI := fun _ => rfl
theorem romBlank : Statement .romBlank := fun _ => rfl
theorem romDash : Statement .romDash := fun _ => rfl
theorem romUnrec (p : Pattern) : Statement (.romUnrec p) := fun _ => rfl

end Sys2Proof.Laws.EncodeLength
end

