-- ==== Sys2Proof/Machine/Notation.lean ====
section
/-! DEFINITION. The notation in which the spec writes operations and results (30_encoding.md R87, R88), as lists of
characters. It is text about the block, and no step uses it (its open points: log 20). -/

namespace Sys2Proof.Machine

/-- One hex digit. -/
def hexDigit (n : Nat) : Char := if n < 10 then Char.ofNat (48 + n) else Char.ofNat (55 + n)

/-- A byte or a pattern in hex, `0xPP` (R87). -/
def hexText (n : Nat) : List Char := ['0', 'x', hexDigit (n / 16 % 16), hexDigit (n % 16)]

/-- A bracketed list (R87). -/
def listText (xs : List (List Char)) : List Char := ['['] ++ (xs.intersperse [',']).flatten ++ [']']

/-- A name with its argument in parentheses (R88). -/
def callText (name arg : List Char) : List Char := name ++ ['('] ++ arg ++ [')']

/-- A dot flag or another single bit, 0 or 1 (R12). -/
def bitText (b : Bool) : List Char := if b then ['1'] else ['0']

/-- A decimal number. -/
def natText (n : Nat) : List Char := Nat.toDigits 10 n

/-- The frame bytes in index order, each in hex (R87). -/
def frameText (f : Frame) : List Char := listText ((frameBytes f).map fun b => hexText b.toNat)

/-- A mode code with its label (R15, R87). -/
def modeText (c : Byte) : List Char :=
  hexText c.toNat ++ match modeName c with
    | some n => ' ' :: n.toList
    | none => []

/-- The character of a glyph in quotes, or UNREC (R87, R66). -/
def glyphText : Glyph → List Char
  | .char c => [Char.ofNat 39, Char.ofNat (ascii c).toNat, Char.ofNat 39]
  | .unrec => "UNREC".toList

def digitsText (d : Vector Pattern 4) : List Char := listText (d.toList.map fun p => hexText p.toNat)

def dotsText (d : Vector Bool 3) : List Char := listText (d.toList.map bitText)

def glyphsText (gs : Vector Glyph 4) : List Char := listText (gs.toList.map glyphText)

/-- A Reading: its mode, digits and dots in braces (R87). -/
def readingText (r : Reading) : List Char :=
  "Reading".toList ++ [Char.ofNat 123] ++ "mode=".toList ++ modeText r.mode ++ ", digits=".toList ++
    digitsText r.digits ++ ", dots=".toList ++ dotsText r.dots ++ [Char.ofNat 125]

/-- A returned result (R87). -/
def resText {α : Type} (text : α → List Char) : Res α → List Char
  | .ok v => callText "Ok".toList (text v)
  | .err (.unrecognizedMode c) => callText "Err".toList (callText "UnrecognizedMode".toList (hexText c.toNat))

def displayedText (d : Displayed) : List Char :=
  modeText d.mode ++ ", ".toList ++ glyphsText d.glyphs ++ ", ".toList ++ dotsText d.dots

/-- A result as the spec writes it (R87). -/
def valueText : Value → List Char
  | .glyph g => glyphText g
  | .bit b => bitText b
  | .pattern p => hexText p.toNat
  | .mode r => resText modeText r
  | .frame r => resText readingText r
  | .glyphs gs => glyphsText gs
  | .display r => resText displayedText r

/-- An operation as the spec writes it (R87, R88), from its request. The rows of the two decode maps are written as the
MODEDEC and SEGDEC they select (R70, R71). -/
def requestText (r : Request) : List Char :=
  let arg := match r.bytes with
    | [b] => hexText b.toNat
    | bs => listText (bs.map fun b => hexText b.toNat)
  match r.lane with
  | .segdec => "SEGDEC ".toList ++ arg
  | .romMap => "SEGDEC ".toList ++ arg
  | .bittest n => callText "BITTEST".toList (arg ++ ", ".toList ++ natText n)
  | .digext k => callText "DIGEXT".toList (arg ++ ", ".toList ++ natText k.val)
  | .dotext j => callText "DOTEXT".toList (arg ++ ", ".toList ++ natText j.val)
  | .modedec => callText "MODEDEC".toList arg
  | .modeMap => callText "MODEDEC".toList arg
  | .framedec => "FRAMEDEC ".toList ++ arg
  | .display => "DISPLAY ".toList ++ arg
  | .glyphs => "GLYPHS ".toList ++ match resultOf r.bytes with
      | some w => readingText (resultReading w)
      | none => arg

/-- An operation under a ROM as the spec writes it (R87, R88). -/
def opText (rom : SegRom) (i : Instr) : List Char := requestText (encode rom i)

end Sys2Proof.Machine
end

