-- ==== Sys2Proof/Tests/Slice0.lean ====
section
/-! SUPPORT. The model's own tests: expected values from 95_test_vectors.md, 93_implementation_defined.md I1 and
opcode_table.json, and a witness for the hypotheses of each statement. -/

namespace Sys2Proof.Tests

set_option maxRecDepth 10000

open Sys2Proof.Machine

/-- The reset state with the informative ROM REF, for vectors marked "under REF" (93_implementation_defined.md I1). -/
def refState : State := { State.reset with segRom := refRom }

/-- That state with a list of presented requests. -/
def presenting (rs : List Request) : State := { refState with program := rs }

/-- A value some operation gives in that state. -/
def gives (i : Instr) (v : Value) : Bool := decide (boundBy (exec i refState) = some v)

/-! Well-formedness refuses an ill-formed term for each check. -/

theorem test_wf_refuses_reading_without_mode :
    (Instr.glyphs ⟨0x0B, #v[0, 0, 0, 0], #v[false, false, false]⟩).wf refRom = false := by decide
theorem test_wf_refuses_matched_mode_code : (Instr.modeUnrecognized 0x19).wf refRom = false := by decide
theorem test_wf_refuses_matched_pattern : (Instr.romUnrec 0x40).wf refRom = false := by decide
theorem test_wf_accepts_their_neighbours :
    (Instr.glyphs ⟨0x0A, #v[0, 0, 0, 0], #v[false, false, false]⟩).wf refRom = true ∧
    (Instr.modeUnrecognized 0x1A).wf refRom = true ∧ (Instr.romUnrec 0x41).wf refRom = true := by decide

/-! Decoding. Words from the formats (R61 to R67) and the table's match and ref_fill columns. -/

theorem test_decode_segdec : decode refRom ⟨.segdec, [0b00111111]⟩ = .instr (.segdec 0x3F) := by decide
theorem test_decode_bittest : decode refRom ⟨.bittest 8, [0xFF]⟩ = .instr (.bittest 0xFF 8) := by decide
theorem test_decode_digext : decode refRom ⟨.digext 2, [0, 0, 0, 0x72, 0xF9, 0xB5, 0x50, 0]⟩ =
    .instr (.digext 2 0x0050B5F972000000) := by decide
theorem test_decode_dotext : decode refRom ⟨.dotext 1, [0, 0, 0, 0x72, 0xF9, 0xB5, 0x50, 0]⟩ =
    .instr (.dotext 1 0x0050B5F972000000) := by decide
theorem test_decode_modedec : decode refRom ⟨.modedec, [0x11]⟩ = .instr (.modedec 0x11) := by decide
theorem test_decode_framedec : decode refRom ⟨.framedec, [0x00, 0xA5, 0x5A, 0xD7, 0xD7, 0xDF, 0xDF, 0xFF]⟩ =
    .instr (.framedec 0xFFDFDFD7D75AA500) := by decide
theorem test_decode_display : decode refRom ⟨.display, [0x12, 0, 0, 0xD7, 0xD7, 0xD7, 0xD7, 0]⟩ =
    .instr (.display 0x00D7D7D7D7000012) := by decide
/-- ok = 1, code 0x19, patterns 0x3F, 0x06, 0x5B, 0x4F, dots 0b010, leftmost first (R67). -/
theorem test_decode_glyphs :
    decode refRom ⟨.glyphs, [0b01111010, 0b01101110, 0b00001101, 0b10111111, 0b10001100]⟩ =
      .instr (.glyphs ⟨0x19, #v[0x3F, 0x06, 0x5B, 0x4F], #v[false, true, false]⟩) := by decide
theorem test_decode_mode_rows : ∀ e ∈ ([(0x00, .mode00), (0x01, .mode01), (0x02, .mode02), (0x03, .mode03), (0x04, .mode04), (0x05, .mode05), (0x06, .mode06),
    (0x07, .mode07), (0x08, .mode08), (0x09, .mode09), (0x0A, .mode0A), (0x0D, .mode0D), (0x10, .mode10), (0x13, .mode13),
    (0x14, .mode14), (0x15, .mode15), (0x16, .mode16), (0x17, .mode17), (0x19, .mode19)] : List (Byte × Instr)),
    decode refRom ⟨.modeMap, [e.1]⟩ = .instr e.2 := by decide
theorem test_decode_mode_gaps : ∀ c ∈ ([0x0B, 0x0C, 0x0E, 0x0F, 0x11, 0x12, 0x18, 0x1A, 0x80, 0xFF] : List Byte),
    decode refRom ⟨.modeMap, [c]⟩ = .instr (.modeUnrecognized c) := by decide
theorem test_decode_rom_rows_under_ref : ∀ e ∈ ([(0x3F, .rom0), (0x06, .rom1), (0x5B, .rom2), (0x4F, .rom3), (0x66, .rom4), (0x6D, .rom5), (0x7D, .rom6),
    (0x07, .rom7), (0x7F, .rom8), (0x6F, .rom9), (0x73, .romP), (0x79, .romE), (0x54, .romN), (0x71, .romF),
    (0x39, .romC), (0x38, .romL), (0x76, .romH1), (0x74, .romH2), (0x50, .romR), (0x78, .romT), (0x30, .romI),
    (0x00, .romBlank), (0x40, .romDash)] : List (Byte × Instr)),
    decode refRom ⟨.romMap, [e.1]⟩ = .instr e.2 := by decide
theorem test_decode_rom_gaps_under_ref : ∀ p ∈ ([0x01, 0x3E, 0x37] : List Byte),
    decode refRom ⟨.romMap, [p]⟩ = .instr (.romUnrec (p.setWidth 7)) := by decide
theorem test_decode_rejects_by_name :
    decode refRom ⟨.segdec, [0x80]⟩ = .reject .patternTooWide ∧ decode refRom ⟨.romMap, []⟩ = .reject .wrongLength ∧
    decode refRom ⟨.modedec, [0, 0]⟩ = .reject .wrongLength ∧
    decode refRom ⟨.framedec, [0, 0, 0, 0, 0, 0, 0]⟩ = .reject .wrongLength ∧
    decode refRom ⟨.glyphs, [0, 0, 0, 0, 0]⟩ = .reject .notAReading ∧
    decode refRom ⟨.glyphs, [0, 0, 0, 0x80, 0x85]⟩ = .reject .notAReading := by decide

/-- The table's fixed words are decoded, and run first from reset (log 2). -/
theorem test_table_words_run_first : ∀ e ∈ ((0x3F, .rom0) :: [(0x00, .mode00), (0x01, .mode01), (0x02, .mode02), (0x03, .mode03), (0x04, .mode04), (0x05, .mode05), (0x06, .mode06),
    (0x07, .mode07), (0x08, .mode08), (0x09, .mode09), (0x0A, .mode0A), (0x0D, .mode0D), (0x10, .mode10), (0x13, .mode13),
    (0x14, .mode14), (0x15, .mode15), (0x16, .mode16), (0x17, .mode17), (0x19, .mode19)] : List (Nat × Instr)),
    decodeTableWord 8 e.1 = some e.2 ∧
    boundBy (step (State.reset.withFetchWord 8 e.1)) = boundBy (exec e.2 State.reset) := by decide
theorem test_table_frame_runs_first :
    decodeTableWord 64 0x00D7D7D7D7000000 = some (.framedec 0x00D7D7D7D7000000) ∧
    boundBy (step (State.reset.withFetchWord 64 0x00D7D7D7D7000000)) =
      some (.frame (.ok ⟨0, #v[0x3F, 0x3F, 0x3F, 0x3F], #v[false, false, false]⟩)) := by decide

/-! 95_test_vectors.md section 2. -/

/-- T-B1 to T-B8. -/
theorem test_bittest : ∀ e ∈ ([(0x08, 3, true), (0xF7, 3, false), (0x01, 0, true), (0x80, 7, true), (0x7F, 7, false),
    (0xFF, 8, false), (0xFF, 255, false), (0x00, 1000, false)] : List (Byte × Nat × Bool)),
    gives (.bittest e.1 e.2.1) (.bit e.2.2) = true := by decide

/-- T-D1 to T-D15, at all four digit positions. -/
theorem test_digext : (([(0x01, 0x01), (0x02, 0x20), (0x04, 0x10), (0x08, 0x00), (0x10, 0x02), (0x20, 0x40),
    (0x40, 0x04), (0x80, 0x08), (0x00, 0x00), (0xFF, 0x7F), (0xF7, 0x7F), (0xD7, 0x3F), (0x7E, 0x76), (0x55, 0x17),
    (0xAA, 0x68)] : List (Byte × Pattern)).all fun e =>
    gives (.digext 0 (e.1.setWidth 64 <<< 48)) (.pattern e.2) && gives (.digext 1 (e.1.setWidth 64 <<< 40)) (.pattern e.2) &&
      gives (.digext 2 (e.1.setWidth 64 <<< 32)) (.pattern e.2) &&
      gives (.digext 3 (e.1.setWidth 64 <<< 24)) (.pattern e.2)) = true := by decide

/-- T-P1 to T-P3 and T-P12. -/
theorem test_dotext : ∀ e ∈ ([(0x0000080000000000, [true, false, false]), (0x0000000800000000, [false, true, false]),
    (0x0000000008000000, [false, false, true]), (0x0008000000000000, [false, false, false])] : List (Frame × List Bool)),
    ([0, 1, 2] : List (Fin 3)).map (fun j => boundBy (exec (.dotext j e.1) refState)) =
      e.2.map (fun b => some (.bit b)) := by decide

/-- T-P4 to T-P11: dot 0 and digit 1 after each flip of a bit of byte 5. -/
theorem test_byte_five_flips : ∀ e ∈ ([(0, false, 0x3E), (1, false, 0x1F), (2, false, 0x2F), (3, true, 0x3F), (4, false, 0x3D),
    (5, false, 0x7F), (6, false, 0x3B), (7, false, 0x37)] : List (Nat × Bool × Pattern)),
    gives (.dotext 0 (0x00D7D7D7D7000000 ^^^ 1#64 <<< (40 + e.1))) (.bit e.2.1) &&
      gives (.digext 1 (0x00D7D7D7D7000000 ^^^ 1#64 <<< (40 + e.1))) (.pattern e.2.2) = true := by decide

/-- T-M1, T-M2, T-M5, T-M8, T-M11 and T-M13. -/
theorem test_modedec_accepts : ∀ c ∈ ([0x00, 0x01, 0x02, 0x03, 0x04, 0x05, 0x06, 0x07, 0x08, 0x09, 0x0A, 0x0D, 0x10, 0x13, 0x14, 0x15, 0x16, 0x17, 0x19] : List Byte),
    gives (.modedec c) (.mode (.ok c)) = true := by decide

/-- T-M3, T-M4, T-M6, T-M7, T-M9, T-M10, T-M12 and T-M14 to T-M16. -/
theorem test_modedec_rejects : ∀ c ∈ ([0x0B, 0x0C, 0x0E, 0x0F, 0x11, 0x12, 0x18, 0x1A, 0x80, 0xFF] : List Byte),
    gives (.modedec c) (.mode (.err (.unrecognizedMode c))) &&
      gives (.modeUnrecognized c) (.mode (.err (.unrecognizedMode c))) = true := by decide

theorem test_mode_rows : ∀ e ∈ ([(.mode00, 0x00), (.mode01, 0x01), (.mode02, 0x02), (.mode03, 0x03), (.mode04, 0x04), (.mode05, 0x05), (.mode06, 0x06),
    (.mode07, 0x07), (.mode08, 0x08), (.mode09, 0x09), (.mode0A, 0x0A), (.mode0D, 0x0D), (.mode10, 0x10), (.mode13, 0x13),
    (.mode14, 0x14), (.mode15, 0x15), (.mode16, 0x16), (.mode17, 0x17), (.mode19, 0x19)] : List (Instr × Byte)),
    gives e.1 (.mode (.ok e.2)) = true := by decide

/-- T-F1 to T-F10. -/
theorem test_framedec : ∀ e ∈ ([
    (0x0000000000000000, .ok ⟨0x00, #v[0x00, 0x00, 0x00, 0x00], #v[false, false, false]⟩),
    (0xFFFFFFFFFFFFFFFF, .err (.unrecognizedMode 0xFF)),
    (0x00FFFFFFFF00000A, .ok ⟨0x0A, #v[0x7F, 0x7F, 0x7F, 0x7F], #v[true, true, true]⟩),
    (0x00FFFFFFFF00000B, .err (.unrecognizedMode 0x0B)),
    (0x0050B5F972000000, .ok ⟨0x00, #v[0x06, 0x5B, 0x4F, 0x66], #v[false, true, false]⟩),
    (0xFF50B5F9725AA500, .ok ⟨0x00, #v[0x06, 0x5B, 0x4F, 0x66], #v[false, true, false]⟩),
    (0x0050B5F972000011, .err (.unrecognizedMode 0x11)),
    (0x00D7D7D7D7000019, .ok ⟨0x19, #v[0x3F, 0x3F, 0x3F, 0x3F], #v[false, false, false]⟩),
    (0x0020202020000000, .ok ⟨0x00, #v[0x40, 0x40, 0x40, 0x40], #v[false, false, false]⟩),
    (0x0001010101000000, .ok ⟨0x00, #v[0x01, 0x01, 0x01, 0x01], #v[false, false, false]⟩)] :
      List (Frame × Res Reading)),
    gives (.framedec e.1) (.frame e.2) = true := by decide

/-- T-S1 and T-S4 to T-S9, under REF: glyph_known and glyph_char. -/
theorem test_segdec_ports : (([(0x3F, true, 0x30), (0x00, true, 0x20), (0x7F, true, 0x38), (0x40, true, 0x2D),
    (0x01, false, 0x00), (0x3E, false, 0x00), (0x73, true, 0x50)] : List (Pattern × Bool × Byte)).all fun e =>
    ({ refState with segPat := e.1 } : State).glyphKnown == e.2.1 &&
      ({ refState with segPat := e.1 } : State).glyphChar == e.2.2) = true := by decide

/-- Every row of I1, under REF, by SEGDEC and by its ROM row. -/
theorem test_rom_rows_under_ref : ∀ e ∈ ([(.rom0, 0x3F, .d0), (.rom1, 0x06, .d1), (.rom2, 0x5B, .d2), (.rom3, 0x4F, .d3), (.rom4, 0x66, .d4),
    (.rom5, 0x6D, .d5), (.rom6, 0x7D, .d6), (.rom7, 0x07, .d7), (.rom8, 0x7F, .d8), (.rom9, 0x6F, .d9),
    (.romP, 0x73, .letterP), (.romE, 0x79, .letterE), (.romN, 0x54, .letterN), (.romF, 0x71, .letterF), (.romC, 0x39, .letterC),
    (.romL, 0x38, .letterL), (.romH1, 0x76, .letterH), (.romH2, 0x74, .letterH), (.romR, 0x50, .letterR), (.romT, 0x78, .letterT),
    (.romI, 0x30, .letterI), (.romBlank, 0x00, .blank), (.romDash, 0x40, .dash)] : List (Instr × Pattern × GlyphChar)),
    gives e.1 (.glyph (.char e.2.2)) && gives (.segdec e.2.1) (.glyph (.char e.2.2)) = true := by decide
theorem test_rom_unrec : gives (.romUnrec 0x01) (.glyph .unrec) = true := by decide

/-- T-G1 (for the reset ROM, whatever it is) and T-G2, T-G3 under REF. -/
theorem test_glyphs :
    boundBy (exec (.glyphs ⟨0, #v[0x3F, 0x3F, 0x3F, 0x3F], #v[false, false, false]⟩) State.reset) =
      some (.glyphs #v[.char .d0, .char .d0, .char .d0, .char .d0]) ∧
    gives (.glyphs ⟨0, #v[0x00, 0x73, 0x39, 0x38], #v[false, false, false]⟩)
      (.glyphs #v[.char .blank, .char .letterP, .char .letterC, .char .letterL]) = true ∧
    gives (.glyphs ⟨0, #v[0x3F, 0x3E, 0x3F, 0x3F], #v[false, false, false]⟩)
      (.glyphs #v[.char .d0, .unrec, .char .d0, .char .d0]) = true := by decide

/-- Programs P1 (under REF) and P2: the chain, and an error. -/
theorem test_display :
    gives (.display 0x0050B5F972000000)
      (.display (.ok ⟨0, #v[.char .d1, .char .d2, .char .d3, .char .d4], #v[false, true, false]⟩)) = true ∧
    gives (.display 0x00D7D7D7D7000012) (.display (.err (.unrecognizedMode 0x12))) = true := by decide

/-- Program P1: the ports. -/
theorem test_framedec_ports :
    let s : State := { refState with frame := 0x0050B5F972000000 }
    s.ok = true ∧ s.code = 0x00 ∧ s.digitPat 0 = 0x06 ∧ s.digitPat 1 = 0x5B ∧ s.digitPat 2 = 0x4F ∧ s.digitPat 3 = 0x66 ∧
      s.dot = 0b010 ∧ s.glyphCharK 3 = 0x34 := by decide

/-- Program P2: the error frame's ports. -/
theorem test_error_ports :
    let s : State := { refState with frame := 0x00D7D7D7D7000012 }
    s.ok = false ∧ s.code = 0x12 := by decide

/-- The spec's notation (R87). -/
theorem test_notation :
    opText refRom (.segdec 0x3F) = "SEGDEC 0x3F".toList ∧
    opText refRom (.framedec 0x0050B5F972000000) =
      "FRAMEDEC [0x00,0x00,0x00,0x72,0xF9,0xB5,0x50,0x00]".toList ∧
    valueText (.frame (.err (.unrecognizedMode 0x12))) = "Err(UnrecognizedMode(0x12))".toList ∧
    valueText (.mode (.ok 0x19)) = "Ok(0x19 Tempature)".toList ∧
    valueText (.glyphs #v[.char .d0, .unrec, .char .dash, .char .blank]) = "['0',UNREC,'-',' ']".toList := by decide
/-- The second spellings of R88. -/
theorem test_second_spellings : dig 2 0x12 = .digext 2 0x12 ∧ dot0 0x12 = .dotext 0 0x12 := ⟨rfl, rfl⟩

/-! Witnesses: a concrete state and operands that meet the hypotheses of each statement, at the edges of each clause. -/

theorem witness_TablesOk : refState.TablesOk := by decide

/-- The hypothesis shared by RomHoldsEachGlyphOnceAndHTwice, TwentyThreePatternsGiveACharacter, ExactlyTwoPatternsGiveH,
FixedEntryIsZero, RomMapAgreesWithSegdec, CorrectedSampleFrameShowsZeros and ModeTableHoldsNineteenOnes. -/
theorem witness_statements_over_allowed_tables : ∃ s : State, s.TablesOk := ⟨refState, witness_TablesOk⟩
theorem witness_StepKeepsBothTables : (presenting [⟨.segdec, [0x3F]⟩]).TablesOk ∧
    ∃ t, step (presenting [⟨.segdec, [0x3F]⟩]) = .next t := ⟨by decide, _, rfl⟩
theorem witness_SegdecLooksUpItsPattern : refState.TablesOk ∧ (0x00, Glyph.char .blank) ∈ refState.segRom.toList ∧
    (0x7F, Glyph.char .d8) ∈ refState.segRom.toList ∧ (0x3F, Glyph.char .d0) ∈ refState.segRom.toList ∧
    0x7E ∉ refState.segRom.toList.map Prod.fst := by decide
theorem witness_RomRowsGiveTheirGlyphs : refState.TablesOk ∧
    ((.romDash, 22, .dash) : Instr × Fin 23 × GlyphChar) ∈ ([(.rom0, 0, .d0), (.romDash, 22, .dash)] :
      List (Instr × Fin 23 × GlyphChar)) := by decide
theorem witness_UnmatchedPatternRowGivesUnrec : ∀ e ∈ refState.segRom.toList, e.1 ≠ 0x7E := by decide
theorem witness_GlyphPortsCarryTheCharacterCode :
    (∀ c ∈ ([.blank, .dash, .d0, .d1, .d2, .d3, .d4, .d5, .d6, .d7, .d8, .d9, .letterC, .letterE, .letterF, .letterH,
      .letterI, .letterL, .letterN, .letterP, .letterR, .letterT] : List GlyphChar),
      ∃ n ∈ List.range 128, ({ refState with segPat := BitVec.ofNat 7 n } : State).segGlyph = .char c) ∧
    ({ refState with segPat := 0x7E } : State).segGlyph = .unrec := by decide
theorem witness_GlyphDependsOnThePatternAlone :
    let r : Reading := ⟨0x00, #v[0x3F, 0x06, 0x00, 0x7F], #v[false, false, false]⟩
    let r' : Reading := ⟨0x19, #v[0x7F, 0x00, 0x06, 0x3F], #v[true, true, true]⟩
    r.digits[(0 : Fin 4)] = r'.digits[(3 : Fin 4)] ∧ r.digits[(3 : Fin 4)] = r'.digits[(0 : Fin 4)] := by decide
theorem witness_DigextGathersBitsInOrder : ({ refState with frame := 0x00D7D7D7D7000000 } : State).ok = true := by decide
theorem witness_DigitByteClosedForm :
    (0xD7 : Byte) = (0x00D7000000000000 : Frame).extractLsb' (8 * (#v[6, 5, 4, 3] : Vector Nat 4)[(0 : Fin 4)]) 8 ∧
    (0x00000000DF000000 : Frame).extractLsb' (8 * (#v[6, 5, 4, 3] : Vector Nat 4)[(3 : Fin 4)]) 8 =
      BitVec.ofBool ((0x3F : Pattern).getLsbD 3) ++ (BitVec.ofBool ((0x3F : Pattern).getLsbD 2) ++
        (BitVec.ofBool ((0x3F : Pattern).getLsbD 6) ++ (BitVec.ofBool ((0x3F : Pattern).getLsbD 1) ++ (BitVec.ofBool true ++
          (BitVec.ofBool ((0x3F : Pattern).getLsbD 4) ++ (BitVec.ofBool ((0x3F : Pattern).getLsbD 5) ++
            BitVec.ofBool ((0x3F : Pattern).getLsbD 0))))))) := by decide
theorem witness_DigitByteSegmentsByPosition :
    (0xD7 : Byte) = (0x00D7000000000000 : Frame).extractLsb' (8 * (#v[6, 5, 4, 3] : Vector Nat 4)[(0 : Fin 4)]) 8 ∧
    (0 : Fin 4).val = 0 ∧ (1 : Fin 4).val = (0 : Fin 3).val + 1 ∧ (3 : Fin 4).val = (2 : Fin 3).val + 1 := by decide
theorem witness_DotextReadsBitThree : ({ refState with frame := 0x00D7D7D7D7000019 } : State).ok = true := by decide
theorem witness_DotsAndDigitsAreIndependent :
    (0x00D7D7D7D7000000 : Frame).getLsbD 43 = (0xFFFFD7FFFFFFFFFF : Frame).getLsbD 43 ∧
    (∀ i : Fin 64, i.val % 8 ≠ 3 →
      (0x00D7D7D7D7000000 : Frame).getLsbD i.val = (0x08DFDFDFDF080808 : Frame).getLsbD i.val) ∧
    (0x00D7D7D7D7000000 : Frame).getLsbD 43 = false ∧
    (0x00D7DFD7D7000000 : Frame) = 0x00D7D7D7D7000000 ||| 1#64 <<< 43 := by decide
theorem witness_BitThreeOfByteSixIsUnread : (0x00DFD7D7D7000000 : Frame) = 0x00D7D7D7D7000000 ^^^ 1#64 <<< 51 := by decide
/-- For ModedecChecksTheTable, ModeRowsAcceptTheirCode and UnmatchedModeRowReturnsTheError: both ends of the table and its gaps. -/
theorem witness_mode_code_statements : refState.TablesOk ∧
    (∀ c ∈ ([0x00, 0x0A, 0x0D, 0x10, 0x13, 0x17, 0x19] : List Byte), c ∈ ([0x00, 0x01, 0x02, 0x03, 0x04, 0x05, 0x06, 0x07, 0x08, 0x09, 0x0A, 0x0D, 0x10, 0x13, 0x14, 0x15, 0x16, 0x17, 0x19] : List Byte)) ∧
    (∀ c ∈ ([0x0B, 0x0C, 0x0E, 0x0F, 0x11, 0x12, 0x18, 0x1A, 0xFF] : List Byte), c ∉ ([0x00, 0x01, 0x02, 0x03, 0x04, 0x05, 0x06, 0x07, 0x08, 0x09, 0x0A, 0x0D, 0x10, 0x13, 0x14, 0x15, 0x16, 0x17, 0x19] : List Byte)) := by decide
/-- For FrameOutcomeDependsOnByteZeroAlone, FramedecAssemblesTheReading, ErrorCarriesTheOffendingByte and
EightBytesAreAFrameAndNothingElseIs. -/
theorem witness_frame_statements : refState.TablesOk ∧
    (0x0050B5F972000000 : Frame).extractLsb' 0 8 ∈ ([0x00, 0x01, 0x02, 0x03, 0x04, 0x05, 0x06, 0x07, 0x08, 0x09, 0x0A, 0x0D, 0x10, 0x13, 0x14, 0x15, 0x16, 0x17, 0x19] : List Byte) ∧
    (0x00D7D7D7D7000019 : Frame).extractLsb' 0 8 ∈ ([0x00, 0x01, 0x02, 0x03, 0x04, 0x05, 0x06, 0x07, 0x08, 0x09, 0x0A, 0x0D, 0x10, 0x13, 0x14, 0x15, 0x16, 0x17, 0x19] : List Byte) ∧
    (0x00D7D7D7D700001A : Frame).extractLsb' 0 8 ∉ ([0x00, 0x01, 0x02, 0x03, 0x04, 0x05, 0x06, 0x07, 0x08, 0x09, 0x0A, 0x0D, 0x10, 0x13, 0x14, 0x15, 0x16, 0x17, 0x19] : List Byte) ∧
    (0xFFFFFFFFFFFFFFFF : Frame).extractLsb' 0 8 ∉ ([0x00, 0x01, 0x02, 0x03, 0x04, 0x05, 0x06, 0x07, 0x08, 0x09, 0x0A, 0x0D, 0x10, 0x13, 0x14, 0x15, 0x16, 0x17, 0x19] : List Byte) := by decide
theorem witness_EightBytesAreAFrameAndNothingElseIs : ([] : List Byte).length ≠ 8 ∧
    ([0, 0, 0, 0, 0, 0, 0, 0, 0] : List Byte).length ≠ 8 := by decide
theorem witness_FramedecGivesExactlyOneOutcome :
    refState.SameTables { refState with frame := 0x00D7D7D7D7000012, results := [.bit true] } := by decide
theorem witness_FramedecIgnoresReservedBits :
    ∀ i : Fin 64, ¬(8 ≤ i.val ∧ i.val < 24) → i.val < 56 → i.val ≠ 51 →
      (0x00D7DFD7D7000000 : Frame).getLsbD i.val = (0xFFDFDFD7D75AA500 : Frame).getLsbD i.val := by decide
theorem witness_ReadingContentIgnoresTheMode : refState.TablesOk ∧
    (∀ i : Fin 64, 8 ≤ i.val → (0x00D7D7D7D7000000 : Frame).getLsbD i.val = (0x00D7D7D7D7000019 : Frame).getLsbD i.val) ∧
    (0x00D7D7D7D7000000 : Frame).extractLsb' 0 8 ∈ ([0x00, 0x01, 0x02, 0x03, 0x04, 0x05, 0x06, 0x07, 0x08, 0x09, 0x0A, 0x0D, 0x10, 0x13, 0x14, 0x15, 0x16, 0x17, 0x19] : List Byte) ∧
    (0x00D7D7D7D7000019 : Frame).extractLsb' 0 8 ∈ ([0x00, 0x01, 0x02, 0x03, 0x04, 0x05, 0x06, 0x07, 0x08, 0x09, 0x0A, 0x0D, 0x10, 0x13, 0x14, 0x15, 0x16, 0x17, 0x19] : List Byte) := by decide
theorem witness_FramedecResolvesNoGlyph :
    refState.modeCodes = State.reset.modeCodes ∧ refState.TablesOk ∧
    (0x0001010101000000 : Frame).extractLsb' 0 8 ∈ ([0x00, 0x01, 0x02, 0x03, 0x04, 0x05, 0x06, 0x07, 0x08, 0x09, 0x0A, 0x0D, 0x10, 0x13, 0x14, 0x15, 0x16, 0x17, 0x19] : List Byte) ∧
    ∀ k : Fin 4, romRead refState.segRom (digExt 0x0001010101000000 k) = .unrec := by decide
theorem witness_UnknownModeReportsOnlyItself : refState.TablesOk ∧
    (0x0001010101000011 : Frame).extractLsb' 0 8 ∉ ([0x00, 0x01, 0x02, 0x03, 0x04, 0x05, 0x06, 0x07, 0x08, 0x09, 0x0A, 0x0D, 0x10, 0x13, 0x14, 0x15, 0x16, 0x17, 0x19] : List Byte) ∧
    ∀ k : Fin 4, romRead refState.segRom (digExt 0x0001010101000011 k) = .unrec := by decide
theorem witness_OnlyModeChecksRaiseTheError : refState.TablesOk ∧
    boundBy (exec (.modedec 0xFF) refState) = some (.mode (.err (.unrecognizedMode 0xFF))) ∧
    boundBy (exec (.modeUnrecognized 0x11) refState) = some (.mode (.err (.unrecognizedMode 0x11))) ∧
    boundBy (exec (.framedec 0xFF) refState) = some (.frame (.err (.unrecognizedMode 0xFF))) ∧
    boundBy (exec (.display 0xFF) refState) = some (.display (.err (.unrecognizedMode 0xFF))) := by decide
theorem witness_GlyphsResolvesFourDigits :
    let s : State := { refState with frame := 0x0050B5F972000000 }
    let r : Reading := ⟨0x00, #v[0x06, 0x5B, 0x4F, 0x66], #v[false, true, false]⟩
    s.TablesOk ∧ (r.digits[(0 : Fin 4)], Glyph.char .d1) ∈ s.segRom.toList ∧
    (0x7E : Pattern) ∉ s.segRom.toList.map Prod.fst ∧
    boundBy (exec (.segdec (s.digitPat 0)) s) = some (.glyph (.char .d1)) ∧
    boundBy (exec (.framedec s.frame) s) = some (.frame (.ok r)) ∧
    boundBy (exec (.glyphs r) s) = some (.glyphs #v[.char .d1, .char .d2, .char .d3, .char .d4]) := by decide
theorem witness_DisplayIsFramedecThenGlyphs :
    let r : Reading := ⟨0x00, #v[0x06, 0x5B, 0x4F, 0x66], #v[false, true, false]⟩
    boundBy (exec (.framedec 0x00D7D7D7D7000012) refState) = some (.frame (.err (.unrecognizedMode 0x12))) ∧
    boundBy (exec (.framedec 0x0050B5F972000000) refState) = some (.frame (.ok r)) ∧
    boundBy (exec (.glyphs r) refState) = some (.glyphs #v[.char .d1, .char .d2, .char .d3, .char .d4]) := by decide
theorem witness_OutputsDependOnTheirGroupsInputs :
    let t : State := { refState with program := [⟨.modedec, [0]⟩], results := [.bit true] }
    refState.SameTables t ∧ refState.segPat = t.segPat ∧ refState.frame = t.frame ∧ refState ≠ t := by decide
theorem witness_DecodeEncodeRoundTrip : RomWf refRom ∧ (Instr.romUnrec 0x7E).wf refRom = true ∧
    (Instr.modeUnrecognized 0xFF).wf refRom = true ∧
    (Instr.glyphs ⟨0x19, #v[0x7F, 0, 0x7F, 0], #v[true, false, true]⟩).wf refRom = true := by decide
theorem witness_EncodeDecodeRoundTrip : RomWf refRom ∧ decode refRom ⟨.romMap, [0x7F]⟩ = .instr .rom8 := by decide
theorem witness_StepRunsTheDecodedOperation :
    (presenting [⟨.modeMap, [0x19]⟩]).program = ⟨.modeMap, [0x19]⟩ :: [] ∧
    decode (presenting [⟨.modeMap, [0x19]⟩]).segRom ⟨.modeMap, [0x19]⟩ = .instr .mode19 ∧ refState.program = [] := by decide
theorem witness_StepStopsOnlyOnAMalformedRequest :
    step (presenting [⟨.framedec, [0x00]⟩]) = .refused (.badRequest .wrongLength) := rfl
theorem witness_EvaluationsCarryNothingForward : ∃ t, exec (.framedec 0x00D7D7D7D7000012) refState = .next t := ⟨_, rfl⟩
theorem witness_EvaluationOrderIsUnobservable :
    let q : Request := ⟨.framedec, [0x12, 0, 0, 0xD7, 0xD7, 0xD7, 0xD7, 0]⟩
    let r : Request := ⟨.framedec, [0x19, 0, 0, 0xD7, 0xD7, 0xD7, 0xD7, 0]⟩
    (presenting [q, r]).program = [q, r] ∧
    decode (presenting [q, r]).segRom q = .instr (.framedec 0x00D7D7D7D7000012) ∧
    decode (presenting [q, r]).segRom r = .instr (.framedec 0x00D7D7D7D7000019) := by decide
theorem witness_ProgramRunsToItsEnd : (presenting [⟨.segdec, [0x7F]⟩, ⟨.modeMap, [0x18]⟩]).Ready := by
  intro r hr
  simp only [presenting, List.mem_cons, List.not_mem_nil, or_false] at hr
  rcases hr with rfl | rfl
  · exact ⟨_, rfl⟩
  · exact ⟨_, rfl⟩
/-- The three premises of the statement, at both ends of the ignored ranges: a frame with ok = 1 and one with ok = 0. -/
theorem witness_FrameOutputsIgnoreUnreadBits :
    (∀ i : Fin 64, ¬(8 ≤ i.val ∧ i.val < 24) → i.val < 56 → i.val ≠ 51 →
      (0x00D7DFD7D7000012 : Frame).getLsbD i.val = (0xFFDFDFD7D7FFFF12 : Frame).getLsbD i.val) ∧
    (∀ i : Fin 64, i.val < 8 ∨ i.val = 8 * (#v[5, 4, 3] : Vector Nat 3)[(2 : Fin 3)] + 3 →
      (0x0000000008000012 : Frame).getLsbD i.val = (0xFFFFFFFFFFFFFF12 : Frame).getLsbD i.val) ∧
    (∀ i : Fin 64, i.val < 8 ∨ i.val % 8 ≠ 3 →
      (0x00D7D7D7D7000012 : Frame).getLsbD i.val = (0x08DFDFDFDF080812 : Frame).getLsbD i.val) ∧
    (refState.driveFrame 0x00D7DFD7D7000012).ok = false ∧ (refState.driveFrame 0x00D7DFD7D7000000).ok = true := by decide
theorem witness_ReadyStepEvaluatesItsRequest :
    (presenting [⟨.segdec, [0x7F]⟩, ⟨.modeMap, [0x18]⟩]).Ready ∧
    (presenting [⟨.segdec, [0x7F]⟩, ⟨.modeMap, [0x18]⟩]).program = ⟨.segdec, [0x7F]⟩ :: [⟨.modeMap, [0x18]⟩] ∧
    ∃ t, step (presenting [⟨.segdec, [0x7F]⟩, ⟨.modeMap, [0x18]⟩]) = .next t :=
  ⟨witness_ProgramRunsToItsEnd, rfl, _, rfl⟩
theorem witness_PortlessOperationsChangeOnlyTheResult : (∃ t, exec (.bittest 0xFF 8) refState = .next t) ∧
    (∃ t, exec (.modedec 0xFF) refState = .next t) ∧ (∃ t, exec .mode19 refState = .next t) ∧
    (∃ t, exec (.modeUnrecognized 0xFF) refState = .next t) ∧
    ∃ t, exec (.glyphs ⟨0, #v[0, 0, 0, 0], #v[false, false, false]⟩) refState = .next t :=
  ⟨⟨_, rfl⟩, ⟨_, rfl⟩, ⟨_, rfl⟩, ⟨_, rfl⟩, ⟨_, rfl⟩⟩
theorem witness_PatternOperationsLeaveTheFrameGroup : (∃ t, exec (.segdec 0x7F) refState = .next t) ∧
    (∃ t, exec (.romUnrec 0x7E) refState = .next t) ∧ (∃ t, exec .rom0 refState = .next t) ∧
    ∃ t, exec .romDash refState = .next t := ⟨⟨_, rfl⟩, ⟨_, rfl⟩, ⟨_, rfl⟩, ⟨_, rfl⟩⟩
theorem witness_FrameOperationsLeaveTheSegdecGroup : (∃ t, exec (.digext 3 0xFF) refState = .next t) ∧
    (∃ t, exec (.dotext 2 0xFF) refState = .next t) ∧ (∃ t, exec (.framedec 0xFF) refState = .next t) ∧
    ∃ t, exec (.display 0xFF) refState = .next t := ⟨⟨_, rfl⟩, ⟨_, rfl⟩, ⟨_, rfl⟩, ⟨_, rfl⟩⟩
theorem witness_ReferenceFillGivesItsGlyphs : refState.segRom = refRom := rfl
theorem witness_FreeRomCoversEveryAllowedRom : RomWf refRom ∧ distinctPatterns refPatterns = true := by decide

end Sys2Proof.Tests
end

section
/-! The statements of 10_state.md: what an evaluation keeps of the tables and of the two port groups, the contents of the
tables at reset, and what the outputs depend on. -/

namespace Sys2Proof.Machine

@[simp] theorem State.drivePattern_segGlyph (s : State) (p : Pattern) :
    (s.drivePattern p).segGlyph = romRead s.segRom p := rfl

theorem boundBy_next_of_results {t : State} {vs : List Value} {v : Value} (h : t.results = vs ++ [v]) :
    boundBy (.next t) = some v := by
  simp [boundBy, h]

/-- Every operation completes, keeps both tables and the program, and binds one result, which is the same from all states
with the same tables (R27, R29). -/
theorem exec_completes (i : Instr) (codes : List Byte) (rom : SegRom) : ∃ v : Value,
    ∀ s : State, s.modeCodes = codes → s.segRom = rom →
      ∃ t : State, exec i s = .next t ∧ t.results = s.results ++ [v] ∧ t.program = s.program ∧ t.SameTables s := by
  obtain ⟨v, h | ⟨p, h⟩ | ⟨f, h⟩⟩ := exec_shape i codes rom
  · exact ⟨v, fun s hc hr => ⟨_, h s hc hr, rfl, rfl, rfl, rfl⟩⟩
  · exact ⟨v, fun s hc hr => ⟨_, h s hc hr, rfl, rfl, rfl, rfl⟩⟩
  · exact ⟨v, fun s hc hr => ⟨_, h s hc hr, rfl, rfl, rfl, rfl⟩⟩

theorem exec_keeps_tables {i : Instr} {s t : State} (h : exec i s = .next t) : t.SameTables s := by
  obtain ⟨v, hv⟩ := exec_completes i s.modeCodes s.segRom
  obtain ⟨t', ht', -, -, htab⟩ := hv s rfl rfl
  cases ht'.symm.trans h
  exact htab

theorem step_keeps_tables {s t : State} (h : step s = .next t) : t.SameTables s := by
  obtain ⟨-, hs⟩ | ⟨r, rest, why, -, -, hs⟩ | ⟨r, rest, i, -, -, hs⟩ := step_cases s <;> rw [hs] at h
  · cases h
    exact ⟨rfl, rfl⟩
  · cases h
  · have htab : t.SameTables (s.present rest) := exec_keeps_tables h
    exact htab

/-- The tables' invariant reads the tables alone. -/
theorem State.SameTables.tablesOk {s t : State} (h : t.SameTables s) (hs : s.TablesOk) : t.TablesOk := by
  rwa [State.TablesOk, h.1, h.2]

/-- Settles O3: an idle step keeps the state, a refusal has no next state, and an evaluation keeps both tables. -/
theorem stepKeepsBothTables : Obligations.StepKeepsBothTables := by
  intro s t h
  have htab : t.SameTables s := step_keeps_tables h
  exact ⟨htab.1, htab.2, htab.tablesOk⟩

/-- Settles O45: a result depends on the two tables alone, and the first evaluation keeps both. -/
theorem evaluationsCarryNothingForward : Obligations.EvaluationsCarryNothingForward := by
  intro i j s t h
  obtain ⟨hcodes, hrom⟩ := exec_keeps_tables h
  obtain ⟨v, hv⟩ := exec_completes j s.modeCodes s.segRom
  obtain ⟨t₁, ht, hvt, -⟩ := hv t hcodes hrom
  obtain ⟨s₁, hs, hvs, -⟩ := hv s rfl rfl
  exact ⟨v, by rw [ht, boundBy_next_of_results hvt], by rw [hs, boundBy_next_of_results hvs]⟩

/-- The rows of the segment ROM decode map that have an entry (R71). -/
def romRows : List Instr :=
  [.rom0, .rom1, .rom2, .rom3, .rom4, .rom5, .rom6, .rom7, .rom8, .rom9, .romP, .romE,
   .romN, .romF, .romC, .romL, .romH1, .romH2, .romR, .romT, .romI, .romBlank, .romDash]

/-- A ROM row is evaluated as SEGDEC of some pattern (R71; log 14). -/
theorem exec_romRow {i : Instr} (hi : i ∈ romRows) (s : State) : ∃ p, exec i s = evalSegdec p s := by
  fin_cases hi <;> exact ⟨_, rfl⟩

/-- Settles O49: each of these operations is SEGDEC of some pattern, which drives `seg_pat` and binds the glyph there. -/
theorem patternOperationsLeaveTheFrameGroup : Obligations.PatternOperationsLeaveTheFrameGroup := by
  intro i s t hi h
  obtain ⟨p, hp⟩ : ∃ p, exec i s = evalSegdec p s := by
    obtain ⟨p, rfl⟩ | ⟨p, rfl⟩ | hrow := hi
    · exact ⟨p, rfl⟩
    · exact ⟨p, rfl⟩
    · exact exec_romRow hrow s
  rw [hp, evalSegdec_eq] at h ⊢
  cases h
  simp

/-- Settles O50: each of these operations drives `frame` with its frame and binds one result. -/
theorem frameOperationsLeaveTheSegdecGroup : Obligations.FrameOperationsLeaveTheSegdecGroup := by
  intro i f s t hi h
  obtain ⟨v, hv⟩ : ∃ v, exec i s = evalOnFrame f v s := by
    obtain ⟨k, rfl⟩ | ⟨j, rfl⟩ | rfl | rfl := hi
    · exact ⟨.pattern (digExt f k), rfl⟩
    · exact ⟨.bit (dotExt f j), rfl⟩
    · exact ⟨.frame (frameDec s.modeCodes f), rfl⟩
    · exact ⟨.display (displayOf s.modeCodes s.segRom f), rfl⟩
  rw [hv, evalOnFrame_eq] at h
  cases h
  simp

set_option maxRecDepth 4000 in
/-- Settles O1: the tables are literals, and the bytes outside them are counted. -/
theorem resetModeTableHoldsTheNineteenCodes : Obligations.ResetModeTableHoldsTheNineteenCodes :=
  ⟨rfl, rfl, by decide, by decide, by decide, by decide⟩

/-- Both the free candidates, where they are chosen, and the fallback REF keep R103. -/
theorem distinctPatterns_romPatterns : distinctPatterns romPatterns = true := by
  unfold romPatterns
  split
  case isTrue h => exact h
  case isFalse => decide

/-- Settles O2: the ROM at reset is built from distinct patterns. -/
theorem resetTablesAreAllowed : Obligations.ResetTablesAreAllowed :=
  ⟨rfl, romFrom_wf distinctPatterns_romPatterns⟩

/-! Each output read from its group's input and the tables (R30). -/

section
variable {s t : State}

theorem State.segGlyph_congr (hrom : s.segRom = t.segRom) (hpat : s.segPat = t.segPat) :
    s.segGlyph = t.segGlyph := by
  rw [State.segGlyph, State.segGlyph, hrom, hpat]

theorem State.ok_congr (hcodes : s.modeCodes = t.modeCodes) (hframe : s.frame = t.frame) : s.ok = t.ok := by
  rw [State.ok, State.ok, hcodes, hframe]

theorem State.code_congr (hframe : s.frame = t.frame) : s.code = t.code := by
  rw [State.code, State.code, hframe]

theorem State.digitPat_congr (hcodes : s.modeCodes = t.modeCodes) (hframe : s.frame = t.frame) (k : Fin 4) :
    s.digitPat k = t.digitPat k := by
  rw [State.digitPat, State.digitPat, ok_congr hcodes hframe, code_congr hframe, hframe]

theorem State.dotFlag_congr (hcodes : s.modeCodes = t.modeCodes) (hframe : s.frame = t.frame) (j : Fin 3) :
    s.dotFlag j = t.dotFlag j := by
  rw [State.dotFlag, State.dotFlag, ok_congr hcodes hframe, hframe]

theorem State.dot_congr (hcodes : s.modeCodes = t.modeCodes) (hframe : s.frame = t.frame) : s.dot = t.dot := by
  simp only [State.dot, dotFlag_congr hcodes hframe]

theorem State.digitGlyph_congr (hcodes : s.modeCodes = t.modeCodes) (hrom : s.segRom = t.segRom)
    (hframe : s.frame = t.frame) (k : Fin 4) : s.digitGlyph k = t.digitGlyph k := by
  rw [State.digitGlyph, State.digitGlyph, hrom, digitPat_congr hcodes hframe]

end

/-- Settles O36: a port of a glyph is a function of the glyph, and every other port has its lemma above. -/
theorem outputsDependOnTheirGroupsInputs : Obligations.OutputsDependOnTheirGroupsInputs := by
  intro s t ⟨hcodes, hrom⟩
  refine ⟨fun hpat => ?_, fun hframe => ⟨State.ok_congr hcodes hframe, State.code_congr hframe,
    State.digitPat_congr hcodes hframe, State.dot_congr hcodes hframe, fun k => ?_⟩⟩
  · have hglyph : s.segGlyph = t.segGlyph := State.segGlyph_congr hrom hpat
    exact ⟨congrArg glyphKnown hglyph, congrArg glyphCode hglyph⟩
  · have hglyph : s.digitGlyph k = t.digitGlyph k := State.digitGlyph_congr hcodes hrom hframe k
    exact ⟨congrArg glyphKnown hglyph, congrArg glyphCode hglyph⟩

end Sys2Proof.Machine
end

section
/-! The statements of 20_memory.md: the mode table as 256 one-bit addresses, frames from bytes, the order of two
evaluations, and the frame bits that reach no output. -/

namespace Sys2Proof.Machine

/-! MODEDEC and FRAMEDEC, each outcome as a condition on its byte (R130, R133). -/

theorem modeDec_eq_ok_iff {codes : List Byte} {c : Byte} : modeDec codes c = .ok c ↔ c ∈ codes := by
  by_cases h : c ∈ codes
  · simp [modeDec_of_mem h, h]
  · simp [modeDec_of_not_mem h, h]

theorem modeDec_eq_err_iff {codes : List Byte} {c : Byte} :
    modeDec codes c = .err (.unrecognizedMode c) ↔ c ∉ codes := by
  by_cases h : c ∈ codes
  · simp [modeDec_of_mem h, h]
  · simp [modeDec_of_not_mem h, h]

theorem frameDec_fails_iff {codes : List Byte} {f : Frame} :
    (∃ e, frameDec codes f = .err e) ↔ byte f modeByte ∉ codes := by
  by_cases h : byte f modeByte ∈ codes
  · simp [frameDec_of_mem h, h]
  · simp [frameDec_of_not_mem h, h]

theorem boundBy_exec_modedec (c : Byte) (s : State) :
    boundBy (exec (.modedec c) s) = some (.mode (modeDec s.modeCodes c)) :=
  boundBy_next_bindResult s _

theorem boundBy_exec_digext (k : Fin 4) (f : Frame) (s : State) :
    boundBy (exec (.digext k f) s) = some (.pattern (digExt f k)) :=
  boundBy_next_bindResult (s.driveFrame f) _

theorem boundBy_exec_dotext (j : Fin 3) (f : Frame) (s : State) :
    boundBy (exec (.dotext j f) s) = some (.bit (dotExt f j)) :=
  boundBy_next_bindResult (s.driveFrame f) _

theorem boundBy_exec_framedec (f : Frame) (s : State) :
    boundBy (exec (.framedec f) s) = some (.frame (frameDec s.modeCodes f)) :=
  boundBy_next_bindResult (s.driveFrame f) _

theorem boundBy_exec_display (f : Frame) (s : State) :
    boundBy (exec (.display f) s) = some (.display (displayOf s.modeCodes s.segRom f)) :=
  boundBy_next_bindResult (s.driveFrame f) _

set_option maxRecDepth 4000 in
/-- Settles O54: an address holds a one when its byte is in the table, and a zero when it is not; both are counted. -/
theorem modeTableHoldsNineteenOnes : Obligations.ModeTableHoldsNineteenOnes := by
  intro s ⟨hcodes, _⟩
  simp only [boundBy_exec_modedec, hcodes, Option.some.injEq, Value.mode.injEq, modeDec_eq_ok_iff, modeDec_eq_err_iff]
  constructor <;> decide

/-! A frame presented as bytes (R46, R47). -/

theorem frameOf_of_length_ne {bytes : List Byte} (h : bytes.length ≠ 8) : frameOf bytes = none := by
  unfold frameOf
  split
  · exact absurd rfl h
  · rfl

theorem decodeFrame_of_length_ne (mk : Frame → Instr) {bytes : List Byte} (h : bytes.length ≠ 8) :
    decodeFrame mk bytes = .reject .wrongLength := by
  rw [decodeFrame, frameOf_of_length_ne h]

/-- Settles O38: the frame is its bytes put together, byte 0 is its mode byte, and only eight bytes are put together. -/
theorem eightBytesAreAFrameAndNothingElseIs : Obligations.EightBytesAreAFrameAndNothingElseIs := by
  refine ⟨fun s b0 b1 b2 b3 b4 b5 b6 b7 => ?_, fun rom bytes h => decodeFrame_of_length_ne .framedec h⟩
  obtain ⟨f, hf⟩ : ∃ f, frameOf [b0, b1, b2, b3, b4, b5, b6, b7] = some f := ⟨_, rfl⟩
  have hlanes : frameBytes f = [b0, b1, b2, b3, b4, b5, b6, b7] := frameBytes_of_frameOf hf
  have hmode : byte f modeByte = b0 := List.head_eq_of_cons_eq hlanes
  refine ⟨f, by simp only [decode, decodeFrame, hf], hlanes, fun ⟨hcodes, _⟩ => ?_⟩
  simp only [boundBy_exec_framedec, Option.some.injEq, Value.frame.injEq, frameDec_fails_iff, hcodes, hmode]
  exact Iff.rfl

/-! Two presented operations (R51). -/

/-- Under these tables a step whose first request is `r` binds `v`, whatever else the state holds. -/
def StepBinds (codes : List Byte) (rom : SegRom) (r : Request) (v : Value) : Prop :=
  ∀ (s : State) (rest : List Request), s.modeCodes = codes → s.segRom = rom → s.program = r :: rest →
    ∃ t, step s = .next t ∧ t.results = s.results ++ [v] ∧ t.program = rest ∧ t.SameTables s

theorem step_of_decode {s : State} {r : Request} {rest : List Request} {i : Instr} (hp : s.program = r :: rest)
    (hd : decode s.segRom r = .instr i) : step s = exec i (s.present rest) := by
  simp [step, hp, hd]

/-- A request that decodes has one result under given tables (R27). -/
theorem exists_stepBinds {rom : SegRom} {r : Request} {i : Instr} (codes : List Byte)
    (hd : decode rom r = .instr i) : ∃ v, StepBinds codes rom r v := by
  obtain ⟨v, hv⟩ := exec_completes i codes rom
  refine ⟨v, fun s rest hcodes hrom hp => ?_⟩
  rw [step_of_decode hp (hrom ▸ hd)]
  exact hv (s.present rest) hcodes hrom

theorem run_two_of_stepBinds {s : State} {q r : Request} {v w : Value} (hq : StepBinds s.modeCodes s.segRom q v)
    (hr : StepBinds s.modeCodes s.segRom r w) (hp : s.program = [q, r]) :
    ∃ t : State, Host.Core.run Sys2Proof.core 2 s = .next t ∧ t.results = s.results ++ [v, w] := by
  obtain ⟨s₁, hstep, hres, hprog, hcodes, hrom⟩ := hq s [r] rfl rfl hp
  obtain ⟨s₂, hstep', hres', -⟩ := hr s₁ [] hcodes hrom hprog
  have hrun : Host.Core.run Sys2Proof.core 2 s = .next s₂ :=
    (run_succ 1 s s₁ hstep).trans (run_succ 0 s₁ s₂ hstep')
  exact ⟨s₂, hrun, by rw [hres', hres, List.append_assoc, List.singleton_append]⟩

/-- Settles O46: each request has one result under the tables, and no step changes the tables. -/
theorem evaluationOrderIsUnobservable : Obligations.EvaluationOrderIsUnobservable := by
  intro s q r i j hp hi hj
  obtain ⟨v, hv⟩ := exists_stepBinds s.modeCodes hi
  obtain ⟨w, hw⟩ := exists_stepBinds s.modeCodes hj
  obtain ⟨t, hrun, hres⟩ := run_two_of_stepBinds hv hw hp
  obtain ⟨t', hrun', hres'⟩ := run_two_of_stepBinds (s := s.present [r, q]) hw hv rfl
  exact ⟨t, t', v, w, hrun, hrun', hres, hres'⟩

/-! The outputs read the frame through its mode byte, its four patterns and its three dots alone (R43, R125); so they
agree on two frames with these fields in common, whether `ok` is 1 or 0 (log 10). -/

theorem frameDec_congr {f f' : Frame} (codes : List Byte) (hmode : byte f modeByte = byte f' modeByte)
    (hdig : ∀ k, digExt f k = digExt f' k) (hdot : ∀ j, dotExt f j = dotExt f' j) :
    frameDec codes f = frameDec codes f' := by
  simp only [frameDec, digitsOf, dotsOf, hmode, hdig, hdot]

theorem displayOf_congr {f f' : Frame} {codes : List Byte} (rom : SegRom)
    (h : frameDec codes f = frameDec codes f') : displayOf codes rom f = displayOf codes rom f' := by
  rw [displayOf, displayOf, h]

section
variable {f f' : Frame} (s : State) (hmode : byte f modeByte = byte f' modeByte)
include hmode

theorem State.driveFrame_code_congr : (s.driveFrame f).code = (s.driveFrame f').code := hmode

theorem State.driveFrame_ok_congr : (s.driveFrame f).ok = (s.driveFrame f').ok := by
  simp only [State.ok, driveFrame_modeCodes, driveFrame_frame, hmode]

theorem State.driveFrame_digitPat_congr (hdig : ∀ k, digExt f k = digExt f' k) (k : Fin 4) :
    (s.driveFrame f).digitPat k = (s.driveFrame f').digitPat k := by
  simp only [State.digitPat, driveFrame_ok_congr s hmode, driveFrame_code_congr s hmode, driveFrame_frame, digitsOf, hdig]

theorem State.driveFrame_dotFlag_congr {j : Fin 3} (hdot : dotExt f j = dotExt f' j) :
    (s.driveFrame f).dotFlag j = (s.driveFrame f').dotFlag j := by
  simp only [State.dotFlag, driveFrame_ok_congr s hmode, driveFrame_frame, hmode, hdot]

theorem State.driveFrame_dot_congr (hdot : ∀ j, dotExt f j = dotExt f' j) :
    (s.driveFrame f).dot = (s.driveFrame f').dot := by
  simp only [State.dot, driveFrame_dotFlag_congr s hmode (hdot _)]

end

/-- Frames that agree in bits 7 to 0 have the same mode byte (R62). -/
theorem modeByte_congr {f f' : Frame} (h : ∀ i : Fin 64, i.val < 8 → f.getLsbD i.val = f'.getLsbD i.val) :
    byte f modeByte = byte f' modeByte := by
  refine BitVec.eq_of_getLsbD_eq fun n hn => ?_
  have hbit := h ⟨n, by omega⟩ hn
  rw [byte_getLsbD, byte_getLsbD]
  simpa [modeByte, hn] using hbit

/-- Frames that agree outside the bits 3 of their bytes have the same patterns: no entry of ORDER is 3 (R125). -/
theorem digExt_congr_of_dots_ignored {f f' : Frame}
    (h : ∀ i : Fin 64, i.val % 8 ≠ 3 → f.getLsbD i.val = f'.getLsbD i.val) (k : Fin 4) : digExt f k = digExt f' k := by
  have hread : ∀ (k : Fin 4) (i : Fin 7), 8 * digitByte[k] + order[i] < 64 ∧
      (8 * digitByte[k] + order[i]) % 8 ≠ 3 := by decide
  refine BitVec.eq_of_getLsbD_eq fun i hi => ?_
  obtain ⟨hlt, hne⟩ := hread k ⟨i, hi⟩
  rw [digExt_getLsbD f k ⟨i, hi⟩, digExt_getLsbD f' k ⟨i, hi⟩]
  exact h ⟨_, hlt⟩ hne

theorem dotExt_congr {f f' : Frame} {j : Fin 3}
    (h : ∀ i : Fin 64, i.val = 8 * dotByte[j] + 3 → f.getLsbD i.val = f'.getLsbD i.val) :
    dotExt f j = dotExt f' j := by
  have hlt : ∀ j : Fin 3, 8 * dotByte[j] + 3 < 64 := by decide
  rw [dotExt_eq, dotExt_eq]
  exact h ⟨_, hlt j⟩ rfl

/-- Settles O55: each premise leaves the fields alone that the outputs of its clause read. -/
theorem frameOutputsIgnoreUnreadBits : Obligations.FrameOutputsIgnoreUnreadBits := by
  refine ⟨fun s f f' h => ?_, fun s f f' j h => ?_, fun s f f' k h => ?_⟩
  · obtain ⟨hmode, hdig, hdot⟩ := fields_congr h
    have hdec := frameDec_congr s.modeCodes hmode hdig hdot
    have hdisp := displayOf_congr s.segRom hdec
    have hok := State.driveFrame_ok_congr s hmode
    have hcode := State.driveFrame_code_congr s hmode
    have hpat := State.driveFrame_digitPat_congr s hmode hdig
    have hdots := State.driveFrame_dot_congr s hmode hdot
    have hglyph (k : Fin 4) : (s.driveFrame f).digitGlyph k = (s.driveFrame f').digitGlyph k :=
      congrArg (romRead s.segRom) (hpat k)
    refine ⟨fun k => ?_, fun j => ?_, ?_, ?_, hok, ?_, hcode, hdots,
      fun k => ⟨hpat k, congrArg glyphKnown (hglyph k), congrArg glyphCode (hglyph k)⟩⟩
    · rw [boundBy_exec_digext, boundBy_exec_digext, hdig]
    · rw [boundBy_exec_dotext, boundBy_exec_dotext, hdot]
    · rw [boundBy_exec_framedec, boundBy_exec_framedec, hdec]
    · rw [boundBy_exec_display, boundBy_exec_display, hdisp]
    · simp only [State.resultWord, hok, hcode, hpat, hdots]
  · have hmode := modeByte_congr fun i hi => h i (.inl hi)
    have hdot : dotExt f j = dotExt f' j := dotExt_congr fun i hi => h i (.inr hi)
    rw [State.dot_getLsbD, State.dot_getLsbD, State.driveFrame_dotFlag_congr s hmode hdot]
  · have hmode := modeByte_congr fun i hi => h i (.inl hi)
    have hdig := digExt_congr_of_dots_ignored fun i hi => h i (.inr hi)
    exact State.driveFrame_digitPat_congr s hmode hdig k

end Sys2Proof.Machine
end

section
/-! The statements of 30_encoding.md: the two decode maps row by row, the round trips of decode and encode, programs,
and the formats of a digit byte, a glyph and a RESULT. -/

namespace Sys2Proof.Machine

/-! The rows of the two decode maps by number (R70, R71). -/

/-- The rows of the mode-code decode map that match a code, in the order of MODE_CODES (R70). -/
def modeRows : List Instr :=
  [.mode00, .mode01, .mode02, .mode03, .mode04, .mode05, .mode06, .mode07, .mode08, .mode09,
   .mode0A, .mode0D, .mode10, .mode13, .mode14, .mode15, .mode16, .mode17, .mode19]

/-- Row `k` of the mode-code decode map (R70). -/
def modeRow (k : Fin 19) : Instr := modeRows[k.val]'k.isLt

/-- The code that row `k` of the mode-code decode map matches (R24, R70). -/
def modeCode (k : Fin 19) : Byte := modeCodes[k.val]'k.isLt

/-- Row `k` of the segment ROM decode map (R71). -/
def romRow (k : Fin 23) : Instr := romRows[k.val]'k.isLt

theorem mem_modeRows_iff {i : Instr} : i ∈ modeRows ↔ ∃ k, modeRow k = i := by
  rw [List.mem_iff_getElem]
  exact ⟨fun ⟨n, hn, h⟩ => ⟨⟨n, hn⟩, h⟩, fun ⟨k, h⟩ => ⟨k.val, k.isLt, h⟩⟩

theorem mem_modeCodes_iff {c : Byte} : c ∈ modeCodes ↔ ∃ k, modeCode k = c := by
  rw [List.mem_iff_getElem]
  exact ⟨fun ⟨n, hn, h⟩ => ⟨⟨n, hn⟩, h⟩, fun ⟨k, h⟩ => ⟨k.val, k.isLt, h⟩⟩

theorem romUnmatched_iff {rom : SegRom} {p : Pattern} : romUnmatched rom p = true ↔ ∀ k : Fin 23, p ≠ rom[k].1 := by
  have hmem : p ∈ rom.toList.map Prod.fst ↔ ∃ k : Fin 23, p = rom[k].1 := by
    rw [List.mem_iff_getElem]
    constructor
    · rintro ⟨n, hn, rfl⟩
      exact ⟨⟨n, by simpa using hn⟩, by simp⟩
    · rintro ⟨k, rfl⟩
      exact ⟨k.val, by simp, by simp⟩
  simp [romUnmatched, hmem]

theorem modeUnmatched_iff {c : Byte} : modeUnmatched c = true ↔ c ∉ modeCodes := by
  simp [modeUnmatched]

/-- The 52 operations by kind: the rows of the two decode maps are taken together, each by its number. -/
theorem instr_by_rows {motive : Instr → Prop}
    (segdec : ∀ p, motive (.segdec p)) (bittest : ∀ b n, motive (.bittest b n))
    (digext : ∀ k f, motive (.digext k f)) (dotext : ∀ j f, motive (.dotext j f))
    (modedec : ∀ c, motive (.modedec c)) (framedec : ∀ f, motive (.framedec f))
    (glyphs : ∀ r, motive (.glyphs r)) (display : ∀ f, motive (.display f))
    (modeRow : ∀ k, motive (modeRow k)) (modeUnrecognized : ∀ c, motive (.modeUnrecognized c))
    (romRow : ∀ k, motive (romRow k)) (romUnrec : ∀ p, motive (.romUnrec p)) (i : Instr) : motive i := by
  cases i with
  | segdec p => exact segdec p
  | bittest b n => exact bittest b n
  | digext k f => exact digext k f
  | dotext j f => exact dotext j f
  | modedec c => exact modedec c
  | framedec f => exact framedec f
  | glyphs r => exact glyphs r
  | display f => exact display f
  | mode00 => exact modeRow 0
  | mode01 => exact modeRow 1
  | mode02 => exact modeRow 2
  | mode03 => exact modeRow 3
  | mode04 => exact modeRow 4
  | mode05 => exact modeRow 5
  | mode06 => exact modeRow 6
  | mode07 => exact modeRow 7
  | mode08 => exact modeRow 8
  | mode09 => exact modeRow 9
  | mode0A => exact modeRow 10
  | mode0D => exact modeRow 11
  | mode10 => exact modeRow 12
  | mode13 => exact modeRow 13
  | mode14 => exact modeRow 14
  | mode15 => exact modeRow 15
  | mode16 => exact modeRow 16
  | mode17 => exact modeRow 17
  | mode19 => exact modeRow 18
  | modeUnrecognized c => exact modeUnrecognized c
  | rom0 => exact romRow 0
  | rom1 => exact romRow 1
  | rom2 => exact romRow 2
  | rom3 => exact romRow 3
  | rom4 => exact romRow 4
  | rom5 => exact romRow 5
  | rom6 => exact romRow 6
  | rom7 => exact romRow 7
  | rom8 => exact romRow 8
  | rom9 => exact romRow 9
  | romP => exact romRow 10
  | romE => exact romRow 11
  | romN => exact romRow 12
  | romF => exact romRow 13
  | romC => exact romRow 14
  | romL => exact romRow 15
  | romH1 => exact romRow 16
  | romH2 => exact romRow 17
  | romR => exact romRow 18
  | romT => exact romRow 19
  | romI => exact romRow 20
  | romBlank => exact romRow 21
  | romDash => exact romRow 22
  | romUnrec p => exact romUnrec p

/-! The mode-code decode map: what each row matches, encodes to and is evaluated as (R70). -/

theorem decodeMode_modeCode (k : Fin 19) : decodeMode (modeCode k) = modeRow k := by
  fin_cases k <;> rfl

theorem decodeMode_of_not_mem {c : Byte} (h : c ∉ modeCodes) : decodeMode c = .modeUnrecognized c := by
  have hcode : BitVec.ofNat 8 c.toNat ∉ modeCodes := by rwa [BitVec.ofNat_toNat, BitVec.setWidth_eq]
  unfold decodeMode
  split
  case h_20 => rfl
  all_goals
    rename_i hc
    rw [hc] at hcode
    exact absurd (by decide) hcode

theorem encode_modeRow (rom : SegRom) (k : Fin 19) : encode rom (modeRow k) = ⟨.modeMap, [modeCode k]⟩ := by
  fin_cases k <;> rfl

theorem wf_modeRow (rom : SegRom) (k : Fin 19) : (modeRow k).wf rom = true := by
  fin_cases k <;> rfl

/-- A mode row is evaluated as MODEDEC of its code (R70; log 14). -/
theorem exec_modeRow (k : Fin 19) (s : State) : exec (modeRow k) s = evalModedec (modeCode k) s := by
  fin_cases k <;> rfl

/-! The segment ROM decode map, under a ROM within R102 to R106 (R71). -/

theorem wf_romRow (rom : SegRom) (k : Fin 23) : (romRow k).wf rom = true := by
  fin_cases k <;> rfl

section
variable {rom : SegRom} (hrom : RomWf rom)
include hrom

theorem romWf_zero : rom[0].1 = 0x3F := by
  obtain ⟨-, hzero, -⟩ := hrom
  exact hzero

/-- A pattern either is an entry's and selects the entry's row, or is unmatched and selects ROM_UNREC. -/
theorem decodeRom_cases (p : Pattern) :
    (∃ k : Fin 23, decodeRom rom p = romRow k ∧ p = rom[k].1) ∨
    (decodeRom rom p = .romUnrec p ∧ romUnmatched rom p = true) := by
  have hzero : rom[(0 : Fin 23)].1 = 0x3F := romWf_zero hrom
  obtain ⟨hi, hp⟩ | ⟨h0, h | h | h | h | h | h | h | h | h | h | h | h | h | h | h | h | h | h | h | h | h | h |
    ⟨hi, hne⟩⟩ := decodeRom_inv (rom := rom) (p := p) rfl
  · exact .inl ⟨0, hi, hp.trans hzero.symm⟩
  · exact .inl ⟨1, h⟩
  · exact .inl ⟨2, h⟩
  · exact .inl ⟨3, h⟩
  · exact .inl ⟨4, h⟩
  · exact .inl ⟨5, h⟩
  · exact .inl ⟨6, h⟩
  · exact .inl ⟨7, h⟩
  · exact .inl ⟨8, h⟩
  · exact .inl ⟨9, h⟩
  · exact .inl ⟨10, h⟩
  · exact .inl ⟨11, h⟩
  · exact .inl ⟨12, h⟩
  · exact .inl ⟨13, h⟩
  · exact .inl ⟨14, h⟩
  · exact .inl ⟨15, h⟩
  · exact .inl ⟨16, h⟩
  · exact .inl ⟨17, h⟩
  · exact .inl ⟨18, h⟩
  · exact .inl ⟨19, h⟩
  · exact .inl ⟨20, h⟩
  · exact .inl ⟨21, h⟩
  · exact .inl ⟨22, h⟩
  · refine .inr ⟨hi, romUnmatched_iff.mpr fun k => ?_⟩
    by_cases hk : k = 0
    · rw [hk, hzero]
      exact h0
    · exact hne k hk

/-- The pattern of an entry selects the entry's row: patterns are distinct (R103). -/
theorem decodeRom_entry (k : Fin 23) : decodeRom rom rom[k].1 = romRow k := by
  obtain ⟨j, hrow, hp⟩ | ⟨-, hun⟩ := decodeRom_cases hrom rom[k].1
  · rw [hrow, romWf_inj hrom hp]
  · exact absurd rfl (romUnmatched_iff.mp hun k)

theorem decodeRom_of_unmatched {p : Pattern} (h : romUnmatched rom p = true) : decodeRom rom p = .romUnrec p := by
  obtain ⟨j, -, hp⟩ | ⟨hrow, -⟩ := decodeRom_cases hrom p
  · exact absurd hp (romUnmatched_iff.mp h j)
  · exact hrow

theorem encode_romRow (k : Fin 23) : encode rom (romRow k) = ⟨.romMap, [patternByte rom[k].1]⟩ := by
  fin_cases k
  · show encode rom .rom0 = ⟨.romMap, [patternByte rom[0].1]⟩
    rw [romWf_zero hrom]
    rfl
  all_goals rfl

end

/-- A ROM row is evaluated as SEGDEC of its entry's pattern (R71; log 14). -/
theorem exec_romRow_eq {s : State} (hrom : RomWf s.segRom) (k : Fin 23) :
    exec (romRow k) s = evalSegdec s.segRom[k].1 s := by
  fin_cases k
  · show evalSegdec 0x3F s = evalSegdec s.segRom[0].1 s
    rw [romWf_zero hrom]
  all_goals rfl

theorem decode_modeMap (rom : SegRom) (c : Byte) : decode rom ⟨.modeMap, [c]⟩ = .instr (decodeMode c) := rfl

theorem decode_romMap (rom : SegRom) (p : Pattern) :
    decode rom ⟨.romMap, [patternByte p]⟩ = .instr (decodeRom rom p) :=
  decodePattern_patternByte (decodeRom rom) p

/-! The round trips of decode and encode (R61 to R67). -/

/-- A RESULT tuple with `ok = 1` is the tuple of the Reading it holds (R67). -/
theorem packReading_resultReading {w : BitVec 40} (h : resultOk w = true) : packReading (resultReading w) = w := by
  unfold resultOk at h
  simp only [packReading, packResult, resultReading, dotVector]
  refine BitVec.eq_of_getLsbD_eq fun i hi => ?_
  simp only [BitVec.getLsbD_append, BitVec.getLsbD_extractLsb']
  interval_cases i <;> simp [h]

/-- A request that decodes to GLYPHS is the RESULT tuple of a well-formed Reading (R67, R140). -/
theorem decodeReading_inv {l : List Byte} {i : Instr} (h : decodeReading l = .instr i) :
    ∃ r : Reading, i = .glyphs r ∧ r.wf = true ∧ l = resultBytes (packReading r) := by
  unfold decodeReading at h
  split at h
  next w hw =>
    split at h
    next hr =>
      obtain ⟨hok, hwf⟩ := Bool.and_eq_true _ _ ▸ hr
      cases h
      exact ⟨_, rfl, hwf, by rw [packReading_resultReading hok, resultBytes_of_resultOf hw]⟩
    next => cases h
  next => cases h

theorem decodeReading_resultBytes {r : Reading} (h : r.wf = true) :
    decodeReading (resultBytes (packReading r)) = .instr (.glyphs r) := by
  obtain ⟨hread, hok⟩ := resultReading_packReading r
  simp [decodeReading, resultOf_resultBytes, hread, hok, h]

/-- Settles O39: a format is decoded back to its operand, and a row's word selects the row, or the unmatched row. -/
theorem decodeEncodeRoundTrip : Obligations.DecodeEncodeRoundTrip := by
  intro rom i hrom hwf
  cases i using instr_by_rows with
  | segdec p => exact decodePattern_patternByte .segdec p
  | bittest b n => rfl
  | digext k f => exact decodeFrame_frameBytes (.digext k) f
  | dotext j f => exact decodeFrame_frameBytes (.dotext j) f
  | modedec c => rfl
  | framedec f => exact decodeFrame_frameBytes .framedec f
  | glyphs r => exact decodeReading_resultBytes hwf
  | display f => exact decodeFrame_frameBytes .display f
  | modeRow k => rw [encode_modeRow, decode_modeMap, decodeMode_modeCode]
  | modeUnrecognized c => rw [encode, decode_modeMap, decodeMode_of_not_mem (modeUnmatched_iff.mp hwf)]
  | romRow k => rw [encode_romRow hrom, decode_romMap, decodeRom_entry hrom]
  | romUnrec p => rw [encode, decode_romMap, decodeRom_of_unmatched hrom hwf]

/-- Settles O40, lane by lane: the bytes are those of the decoded operand, and a map selects a row by the row's word. -/
theorem encodeDecodeRoundTrip : Obligations.EncodeDecodeRoundTrip := by
  rintro rom ⟨lane, bytes⟩ i hrom h
  cases lane with
  | segdec =>
    obtain ⟨p, rfl, rfl⟩ := decodePattern_inv h
    exact ⟨rfl, rfl⟩
  | bittest n =>
    obtain ⟨b, rfl, rfl⟩ := decodeByte_inv h
    exact ⟨rfl, rfl⟩
  | digext k =>
    obtain ⟨f, rfl, rfl⟩ := decodeFrame_inv h
    exact ⟨rfl, rfl⟩
  | dotext j =>
    obtain ⟨f, rfl, rfl⟩ := decodeFrame_inv h
    exact ⟨rfl, rfl⟩
  | modedec =>
    obtain ⟨c, rfl, rfl⟩ := decodeByte_inv h
    exact ⟨rfl, rfl⟩
  | framedec =>
    obtain ⟨f, rfl, rfl⟩ := decodeFrame_inv h
    exact ⟨rfl, rfl⟩
  | glyphs =>
    obtain ⟨r, rfl, hwf, rfl⟩ := decodeReading_inv h
    exact ⟨rfl, hwf⟩
  | display =>
    obtain ⟨f, rfl, rfl⟩ := decodeFrame_inv h
    exact ⟨rfl, rfl⟩
  | modeMap =>
    obtain ⟨c, rfl, rfl⟩ := decodeByte_inv h
    by_cases hc : c ∈ modeCodes
    · obtain ⟨k, rfl⟩ := mem_modeCodes_iff.mp hc
      rw [decodeMode_modeCode]
      exact ⟨encode_modeRow rom k, wf_modeRow rom k⟩
    · rw [decodeMode_of_not_mem hc]
      exact ⟨rfl, modeUnmatched_iff.mpr hc⟩
  | romMap =>
    obtain ⟨p, rfl, rfl⟩ := decodePattern_inv h
    obtain ⟨k, hrow, rfl⟩ | ⟨hrow, hun⟩ := decodeRom_cases hrom p <;> rw [hrow]
    · exact ⟨encode_romRow hrom k, wf_romRow rom k⟩
    · exact ⟨rfl, hun⟩

/-! Steps and runs of a program of operations (R87). -/

/-- A result depends on the two tables alone (R27). -/
theorem boundBy_exec_congr {s t : State} (h : t.SameTables s) (i : Instr) :
    boundBy (exec i t) = boundBy (exec i s) := by
  obtain ⟨v, hv⟩ := exec_completes i s.modeCodes s.segRom
  obtain ⟨t₁, ht, hvt, -⟩ := hv t h.1 h.2
  obtain ⟨s₁, hs, hvs, -⟩ := hv s rfl rfl
  rw [ht, hs, boundBy_next_of_results hvt, boundBy_next_of_results hvs]

/-- What is left of a program of operations is one, under the same ROM. -/
theorem State.Ready.of_subset {s t : State} (h : s.Ready) (hrom : t.segRom = s.segRom)
    (hsub : t.program ⊆ s.program) : t.Ready := by
  intro r hr
  rw [hrom]
  exact h r (hsub hr)

/-- A step from a ready state evaluates its first request: it binds the result this operation has in that state, and
keeps the tables (R27, R87). -/
theorem step_of_ready {s : State} {r : Request} {rest : List Request} (h : s.Ready) (hp : s.program = r :: rest) :
    ∃ (t : State) (i : Instr) (v : Value), step s = .next t ∧ decode s.segRom r = .instr i ∧
      boundBy (exec i s) = some v ∧ t.results = s.results ++ [v] ∧ t.program = rest ∧ t.SameTables s := by
  obtain ⟨i, hi⟩ := h r (by simp [hp])
  obtain ⟨v, hv⟩ := exec_completes i s.modeCodes s.segRom
  obtain ⟨s₁, hs₁, hres₁, -⟩ := hv s rfl rfl
  obtain ⟨t, ht, hres, hprog, htab⟩ := hv (s.present rest) rfl rfl
  exact ⟨t, i, v, (step_of_decode hp hi).trans ht, hi, by rw [hs₁, boundBy_next_of_results hres₁], hres, hprog, htab⟩

/-- Settles O56: a step either evaluates the first request or, with none presented, keeps the state. -/
theorem readyStepEvaluatesItsRequest : Obligations.ReadyStepEvaluatesItsRequest := by
  intro s hready
  refine ⟨fun r rest hp => ?_, fun t ht => ?_⟩
  · obtain ⟨t, i, v, hstep, hi, hv, hres, hprog, htab⟩ := step_of_ready hready hp
    have ht : t.Ready := hready.of_subset htab.2 (by simp [hprog, hp])
    exact ⟨t, i, v, hstep, ht, hprog, hi, hv, hres⟩
  · cases hp : s.program with
    | nil =>
      have hidle : step s = .next s := by simp [step, hp]
      cases hidle.symm.trans ht
      exact hready
    | cons r rest =>
      obtain ⟨t', i, v, hstep, -, -, -, hprog, htab⟩ := step_of_ready hready hp
      cases hstep.symm.trans ht
      exact hready.of_subset htab.2 (by simp [hprog, hp])

/-- The results of the requests `rs`, each evaluated by itself from `s`, are `vs` (R87). -/
def ResultsFrom (s : State) (rs : List Request) (vs : List Value) : Prop :=
  List.Forall₂ (fun r v => ∃ i, decode s.segRom r = .instr i ∧ boundBy (exec i s) = some v) rs vs

theorem ResultsFrom.congr {s t : State} {rs : List Request} {vs : List Value} (h : t.SameTables s)
    (hvs : ResultsFrom t rs vs) : ResultsFrom s rs vs :=
  hvs.imp fun _ _ ⟨i, hi, hv⟩ => ⟨i, h.2 ▸ hi, boundBy_exec_congr h i ▸ hv⟩

/-- Settles O47, by induction on the presented requests; a step keeps the tables, so the later results are those from
the first state. -/
theorem programRunsToItsEnd : Obligations.ProgramRunsToItsEnd := by
  intro s hready
  generalize hp : s.program = rs
  induction rs generalizing s with
  | nil => exact ⟨s, rfl, hp, rfl, rfl, [], (List.append_nil _).symm, .nil⟩
  | cons r rest ih =>
    obtain ⟨s₁, i, v, hstep, hi, hv, hres, hprog, htab⟩ := step_of_ready hready hp
    have hready₁ : s₁.Ready := hready.of_subset htab.2 (by simp [hprog, hp])
    obtain ⟨t, hrun, hend, hcodes, hrom, vs, hvs, hall⟩ := ih s₁ hready₁ hprog
    refine ⟨t, (run_succ rest.length s s₁ hstep).trans hrun, hend, hcodes.trans htab.1, hrom.trans htab.2,
      v :: vs, ?_, .cons ⟨i, hi, hv⟩ (ResultsFrom.congr htab hall)⟩
    rw [hvs, hres, List.append_assoc, List.singleton_append]

/-- Settles O42: the decoded first request, and no request. -/
theorem stepRunsTheDecodedOperation : Obligations.StepRunsTheDecodedOperation := by
  refine ⟨fun s r rest i hp hi => step_of_decode hp hi, fun s hp => ?_⟩
  simp [step, hp]

/-! The operations that drive no input, and the rows of the two maps evaluated (R69 to R73). -/

/-- Settles O48: each of these operations binds one result and drives no input. -/
theorem portlessOperationsChangeOnlyTheResult : Obligations.PortlessOperationsChangeOnlyTheResult := by
  intro i s t hi h
  obtain ⟨v, hv⟩ : ∃ v, exec i s = .next (s.bindResult v) := by
    obtain ⟨b, n, rfl⟩ | ⟨c, rfl⟩ | ⟨r, rfl⟩ | ⟨c, rfl⟩ | hrow := hi
    · exact ⟨.bit (bitTest b n), rfl⟩
    · exact ⟨.mode (modeDec s.modeCodes c), rfl⟩
    · exact ⟨.glyphs (glyphsOf s.segRom r), rfl⟩
    · exact ⟨.mode (modeDec s.modeCodes c), rfl⟩
    · obtain ⟨k, rfl⟩ := mem_modeRows_iff.mp hrow
      exact ⟨_, exec_modeRow k s⟩
  cases hv.symm.trans h
  simp

/-- Settles O23: a byte in the table selects the row of its code, and another byte the unmatched row. -/
theorem modeMapAgreesWithModedec : Obligations.ModeMapAgreesWithModedec := by
  intro s c
  refine ⟨decodeMode c, decode_modeMap s.segRom c, ?_⟩
  by_cases hc : c ∈ modeCodes
  · obtain ⟨k, rfl⟩ := mem_modeCodes_iff.mp hc
    rw [decodeMode_modeCode]
    exact exec_modeRow k s
  · rw [decodeMode_of_not_mem hc]
    rfl

/-- Settles O24: a pattern of an entry selects the entry's row, and another pattern the unmatched row. -/
theorem romMapAgreesWithSegdec : Obligations.RomMapAgreesWithSegdec := by
  intro s p ⟨_, hrom⟩
  refine ⟨decodeRom s.segRom p, decode_romMap s.segRom p, ?_⟩
  obtain ⟨k, hrow, rfl⟩ | ⟨hrow, hun⟩ := decodeRom_cases hrom p <;> rw [hrow]
  · exact ⟨wf_romRow s.segRom k, exec_romRow_eq hrom k⟩
  · exact ⟨hun, rfl⟩

/-- Settles O9: a row is SEGDEC of its entry's pattern, which reads its entry's glyph. -/
theorem romRowsGiveTheirGlyphs : Obligations.RomRowsGiveTheirGlyphs := by
  intro s ⟨_, hrom⟩ e he
  obtain ⟨hrow, hglyph⟩ : e.1 = romRow e.2.1 ∧ romGlyphs[e.2.1.val]'e.2.1.isLt = .char e.2.2 := by
    revert e
    decide
  have ⟨_, _, hdistinct⟩ := hrom
  rw [hrow, exec_romRow_eq hrom, evalSegdec_eq, romRead_getElem hdistinct, romWf_glyph hrom, hglyph]
  rfl

/-- Settles O10: the ROM read without a matching entry. -/
theorem unmatchedPatternRowGivesUnrec : Obligations.UnmatchedPatternRowGivesUnrec := by
  intro s p h
  have hrow : exec (.romUnrec p) s = evalSegdec p s := rfl
  rw [hrow, evalSegdec_eq, romRead_of_not_mem h]
  rfl

/-- Settles O21: a mode row is MODEDEC of its own code, which is in the table. -/
theorem modeRowsAcceptTheirCode : Obligations.ModeRowsAcceptTheirCode := by
  intro s ⟨hcodes, _⟩ e he
  obtain ⟨k, hrow, hcode⟩ : ∃ k, modeRow k = e.1 ∧ modeCode k = e.2 := by
    revert e
    decide
  have hmem : e.2 ∈ s.modeCodes := by
    rw [hcodes, mem_modeCodes_iff]
    exact ⟨k, hcode⟩
  rw [← hrow, exec_modeRow, evalModedec_eq, hcode, modeDec_of_mem hmem]
  rfl

/-- Settles O22: MODEDEC of a byte outside the table. -/
theorem unmatchedModeRowReturnsTheError : Obligations.UnmatchedModeRowReturnsTheError := by
  intro s c ⟨hcodes, _⟩ hc
  have hrow : exec (.modeUnrecognized c) s = evalModedec c s := rfl
  have hmem : c ∉ s.modeCodes := hcodes ▸ hc
  rw [hrow, evalModedec_eq, modeDec_of_not_mem hmem]
  rfl

/-! Words, glyph codes, digit bytes and the RESULT tuple (R61 to R67). -/

/-- Settles O41, by evaluating the decoder on each word. -/
theorem writtenOutWordsDecode : Obligations.WrittenOutWordsDecode := by
  unfold Obligations.WrittenOutWordsDecode
  decide

/-- Settles O11: the ports are functions of the glyph, and the listed codes are those of `ascii`. -/
theorem glyphPortsCarryTheCharacterCode : Obligations.GlyphPortsCarryTheCharacterCode := by
  refine fun s => ⟨fun e he hglyph => ?_, fun hglyph => ?_⟩
  · have hcode : ascii e.1 = e.2 := by
      clear hglyph
      revert e
      decide
    rw [State.glyphKnown, State.glyphChar, hglyph, ← hcode]
    exact ⟨rfl, rfl, rfl⟩
  · rw [State.glyphKnown, State.glyphChar, hglyph]
    exact ⟨rfl, rfl, rfl⟩

/-- Segment `x` of a gathered digit byte (R63). -/
theorem lit_digExt (f : Frame) (k : Fin 4) (x : Segment) :
    lit (digExt f k) x = (byte f digitByte[k]).getLsbD order[segmentIndex x] :=
  gather_getLsbD _ _

/-- A digit with a dot before it has its dot flag in its own byte (R63). -/
theorem digitByte_of_succ {k : Fin 4} {j : Fin 3} (h : k.val = j.val + 1) : digitByte[k] = dotByte[j] := by
  revert k j
  decide

/-- Settles O16: the segments are read through ORDER, a dot in its digit's byte, and ORDER has no 3. -/
theorem digitByteSegmentsByPosition : Obligations.DigitByteSegmentsByPosition := by
  rintro s k f b rfl
  have hbyte : f.extractLsb' (8 * (#v[6, 5, 4, 3] : Vector Nat 4)[k]) 8 = byte f digitByte[k] := rfl
  rw [hbyte]
  refine ⟨digExt f k, boundBy_exec_digext k f s, lit_digExt f k .d, lit_digExt f k .c, lit_digExt f k .g,
    lit_digExt f k .b, lit_digExt f k .e, lit_digExt f k .f, lit_digExt f k .a, fun j hj => ?_, fun _ => ?_⟩
  · rw [boundBy_exec_dotext, dotExt, bitTest_eq_getLsbD, digitByte_of_succ hj]
    rfl
  · have hdig : digExt (f ^^^ 1#64 <<< 51) k = digExt f k := by
      refine digExt_congr_of_dots_ignored (fun i hi => ?_) k
      have hne : i.val ≠ 51 := by omega
      have hoff : ∀ i : Fin 64, i.val ≠ 51 → (1#64 <<< 51).getLsbD i.val = false := by decide
      rw [BitVec.getLsbD_xor, hoff i hne, Bool.xor_false]
    rw [boundBy_exec_digext, hdig]

theorem State.ok_eq_true_iff {s : State} : s.ok = true ↔ byte s.frame modeByte ∈ s.modeCodes := by
  simp [State.ok, modeBit]

/-- When `ok = 1` the RESULT tuple on the ports is the tuple of the frame's Reading (R67). -/
theorem State.resultWord_of_ok {s : State} (h : s.ok = true) :
    s.resultWord = packReading ⟨s.code, digitsOf s.frame, dotsOf s.frame⟩ := by
  simp only [resultWord, packReading, h, digitPat_of_ok h, dot_of_ok h, digitsOf]

/-- The fields of the RESULT tuple on the ports are the ports (R67). -/
theorem State.resultWord_fields (s : State) :
    resultOk s.resultWord = s.ok ∧ s.resultWord.extractLsb' 31 8 = s.code ∧
    s.resultWord.extractLsb' 24 7 = s.digitPat 0 ∧ s.resultWord.extractLsb' 17 7 = s.digitPat 1 ∧
    s.resultWord.extractLsb' 10 7 = s.digitPat 2 ∧ s.resultWord.extractLsb' 3 7 = s.digitPat 3 ∧
    s.resultWord.extractLsb' 0 3 = s.dot :=
  packResult_fields s.ok s.code (s.digitPat 0) (s.digitPat 1) (s.digitPat 2) (s.digitPat 3) s.dot

/-- The RESULT tuple on the ports, read back, is FRAMEDEC of the frame on the input (R67, R133). -/
theorem State.resultValue_resultWord (s : State) : resultValue s.resultWord = frameDec s.modeCodes s.frame := by
  by_cases hok : s.ok = true
  · obtain ⟨hread, hpack⟩ := resultReading_packReading ⟨s.code, digitsOf s.frame, dotsOf s.frame⟩
    rw [frameDec_of_mem (ok_eq_true_iff.mp hok), resultWord_of_ok hok, resultValue, hpack, hread]
    rfl
  · obtain ⟨hfield, hcode, -⟩ := s.resultWord_fields
    rw [frameDec_of_not_mem (mt ok_eq_true_iff.mpr hok), resultValue, hfield, if_neg hok, hcode]
    rfl

/-- Settles O37: the tuple's value in its two cases, and its fields. -/
theorem resultTupleHoldsTheFramedecResult : Obligations.ResultTupleHoldsTheFramedecResult := by
  intro s
  refine ⟨?_, s.resultWord_fields⟩
  rw [boundBy_exec_framedec, s.resultValue_resultWord]

end Sys2Proof.Machine
end

section
/-! The statements of 40_segment_rom.md: the reads of an allowed segment ROM, its glyph column, the free patterns that
build it, and the completion of every operation. -/

namespace Sys2Proof.Machine

theorem boundBy_exec_segdec (p : Pattern) (s : State) :
    boundBy (exec (.segdec p) s) = some (.glyph (romRead s.segRom p)) :=
  boundBy_next_bindResult (s.drivePattern p) _

theorem boundBy_exec_glyphs (r : Reading) (s : State) :
    boundBy (exec (.glyphs r) s) = some (.glyphs (glyphsOf s.segRom r)) :=
  boundBy_next_bindResult s _

/-- SEGDEC of a pattern whose ROM read is known: its next state and its two ports (R66, R107). -/
theorem exec_segdec_of_romRead {s : State} {p : Pattern} {g : Glyph} (h : romRead s.segRom p = g) :
    ∃ t : State, exec (.segdec p) s = .next t ∧
      t = { s with segPat := p, results := s.results ++ [.glyph g] } ∧
      t.glyphKnown = glyphKnown g ∧ t.glyphChar = glyphCode g := by
  subst h
  exact ⟨_, rfl, rfl, rfl, rfl⟩

theorem glyphsOf_getElem (rom : SegRom) (r : Reading) (k : Fin 4) :
    (glyphsOf rom r)[k] = romRead rom r.digits[k] := by
  fin_cases k <;> rfl

/-! The reads of a ROM within R102 to R106. -/

section
variable {rom : SegRom} (hrom : RomWf rom)
include hrom

/-- The read of entry `k`'s own pattern (R103, R104). -/
theorem romRead_entry (k : Fin 23) : romRead rom rom[k].1 = romGlyphs[k.val]'k.isLt := by
  have ⟨_, _, hdistinct⟩ := hrom
  rw [romRead_getElem hdistinct, romWf_glyph hrom]

/-- A read either matches an entry and gives that entry's glyph, or matches none and gives UNREC (R107). -/
theorem romRead_cases (p : Pattern) :
    (∃ k : Fin 23, p = rom[k].1 ∧ romRead rom p = romGlyphs[k.val]'k.isLt) ∨
    (p ∉ rom.toList.map Prod.fst ∧ romRead rom p = .unrec) := by
  by_cases hp : p ∈ rom.toList.map Prod.fst
  · obtain ⟨n, hn, rfl⟩ := List.mem_iff_getElem.mp hp
    exact .inl ⟨⟨n, by simpa using hn⟩, by simp, by simpa using romRead_entry hrom ⟨n, by simpa using hn⟩⟩
  · refine .inr ⟨hp, romRead_of_not_mem ?_⟩
    rintro e he rfl
    exact hp (List.mem_map_of_mem he)

/-- No entry has the glyph UNREC (R106). -/
theorem romWf_glyph_ne_unrec {e : Pattern × Glyph} (he : e ∈ rom.toList) : e.2 ≠ .unrec := by
  obtain ⟨hglyphs, -, -⟩ := hrom
  have hmem : e.2 ∈ romGlyphs := hglyphs ▸ List.mem_map_of_mem he
  intro h
  rw [h] at hmem
  exact absurd hmem (by decide)

/-- The patterns that read as UNREC are those of no entry (R106, R107). -/
theorem romRead_eq_unrec_iff {p : Pattern} : romRead rom p = .unrec ↔ p ∉ rom.toList.map Prod.fst := by
  obtain ⟨k, rfl, hread⟩ | ⟨hp, hread⟩ := romRead_cases hrom p
  · have hchar : ∀ k : Fin 23, romGlyphs[k.val]'k.isLt ≠ .unrec := by decide
    have hmem : rom[k].1 ∈ rom.toList.map Prod.fst := List.mem_map_of_mem (by simp)
    rw [hread]
    exact iff_of_false (hchar k) (not_not_intro hmem)
  · simp [hread, hp]

/-- The patterns that read as a character are those of its entries (R107). -/
theorem romRead_eq_char_iff {p : Pattern} {c : GlyphChar} :
    romRead rom p = .char c ↔ ∃ k : Fin 23, romGlyphs[k.val]'k.isLt = .char c ∧ p = rom[k].1 := by
  constructor
  · intro hc
    obtain ⟨k, hp, hread⟩ | ⟨-, hread⟩ := romRead_cases hrom p
    · exact ⟨k, hread.symm.trans hc, hp⟩
    · cases hread.symm.trans hc
  · rintro ⟨k, hk, rfl⟩
    exact (romRead_entry hrom k).trans hk

theorem romRead_zero : romRead rom 0x3F = .char .d0 :=
  (romRead_eq_char_iff hrom).mpr ⟨0, rfl, (romWf_zero hrom).symm⟩

end

/-! The 128 addresses of the segment ROM, counted (R106). -/

/-- In a list of all values without repetition, as many values are in `l` as `l` has. -/
theorem length_filter_mem {α : Type} [DecidableEq α] {l all : List α} (hl : l.Nodup) (hall : all.Nodup)
    (hsub : l ⊆ all) : (all.filter (· ∈ l)).length = l.length := by
  refine ((List.perm_ext_iff_of_nodup (hall.filter _) hl).mpr fun a => ?_).length_eq
  simpa using @hsub a

/-- The 128 patterns, in the order of their addresses (R41). -/
def allPatterns : List Pattern := (List.range 128).map (BitVec.ofNat 7)

theorem allPatterns_nodup : allPatterns.Nodup := by
  refine List.nodup_range.map_on fun m hm n hn h => ?_
  rw [List.mem_range] at hm hn
  have hmod : m % 128 = n % 128 := congrArg BitVec.toNat h
  omega

theorem mem_allPatterns (p : Pattern) : p ∈ allPatterns :=
  List.mem_map.mpr ⟨p.toNat, List.mem_range.mpr p.isLt, by simp⟩

/-- A count over the addresses is a count over the patterns. -/
theorem length_filter_range (q : Pattern → Bool) :
    ((List.range 128).filter fun n => q (BitVec.ofNat 7 n)).length = (allPatterns.filter q).length := by
  rw [allPatterns, List.filter_map, List.length_map]
  rfl

/-- Settles O5: the patterns that give a character are those of the 23 entries, which are distinct. -/
theorem twentyThreePatternsGiveACharacter : Obligations.TwentyThreePatternsGiveACharacter := by
  intro s ⟨_, hrom⟩
  have ⟨_, _, hdistinct⟩ := hrom
  have hchars : (allPatterns.filter (· ∈ s.segRom.toList.map Prod.fst)).length = 23 := by
    rw [length_filter_mem hdistinct allPatterns_nodup fun p _ => mem_allPatterns p]
    simp
  have hall : allPatterns.length = 128 := by simp [allPatterns]
  have hsplit := allPatterns.length_eq_length_filter_add (· ∈ s.segRom.toList.map Prod.fst)
  refine ⟨fun e he => romWf_glyph_ne_unrec hrom he, fun p => ⟨_, boundBy_exec_segdec p s⟩, ?_, ?_⟩
  · simp only [boundBy_exec_segdec, ne_eq, Option.some.injEq, Value.glyph.injEq, romRead_eq_unrec_iff hrom, not_not]
    exact (length_filter_range _).trans hchars
  · simp only [boundBy_exec_segdec, Option.some.injEq, Value.glyph.injEq, romRead_eq_unrec_iff hrom]
    rw [length_filter_range fun p => decide (p ∉ s.segRom.toList.map Prod.fst)]
    simp only [decide_not]
    omega

/-- Settles O6: the entries of 'H' are those of the rows H1 and H2. -/
theorem exactlyTwoPatternsGiveH : Obligations.ExactlyTwoPatternsGiveH := by
  intro s ⟨_, hrom⟩
  have hrows : ∀ k : Fin 23, romGlyphs[k.val]'k.isLt = .char .letterH ↔ k = 16 ∨ k = 17 := by decide
  refine ⟨fun h => ?_, romWf_glyph hrom 16, romWf_glyph hrom 17, fun p => ?_⟩
  · exact absurd (romWf_inj hrom (j := 16) (k := 17) h) (by decide)
  · simp only [boundBy_exec_segdec, Option.some.injEq, Value.glyph.injEq, romRead_eq_char_iff hrom, hrows,
      or_and_right, exists_or, exists_eq_left]
    rfl

/-- Settles O7: the read with a matching entry, without one, and of the fixed entry. -/
theorem segdecLooksUpItsPattern : Obligations.SegdecLooksUpItsPattern := by
  intro s p ⟨_, hrom⟩
  have ⟨_, _, hdistinct⟩ := hrom
  refine ⟨fun g hg => ?_, fun hno => ?_, ?_⟩
  · obtain ⟨t, hnext, ht, hknown, hcode⟩ := exec_segdec_of_romRead (romRead_of_mem hdistinct hg)
    cases g with
    | char c => exact ⟨t, c, rfl, hnext, ht, hknown, hcode⟩
    | unrec => exact absurd rfl (romWf_glyph_ne_unrec hrom hg)
  · refine exec_segdec_of_romRead (romRead_of_not_mem ?_)
    rintro e he rfl
    exact hno e.2 he
  · rintro rfl
    exact exec_segdec_of_romRead (romRead_zero hrom)

/-- Settles O8: entry 0, its segments, and its read by SEGDEC and by the row ROM_0. -/
theorem fixedEntryIsZero : Obligations.FixedEntryIsZero := by
  intro s ⟨_, hrom⟩
  have hentry : s.segRom[0] = (0x3F, .char .d0) := Prod.ext (romWf_zero hrom) (romWf_glyph hrom 0)
  have hlit (x : Segment) : lit 0x3F x = true ↔ x ≠ .g := by
    cases x <;> decide
  have hrow : exec .rom0 s = exec (.segdec 0x3F) s := rfl
  obtain ⟨t, hnext, rfl, -⟩ := exec_segdec_of_romRead (romRead_zero hrom)
  exact ⟨hentry ▸ by simp, hlit, hnext, hrow.trans hnext⟩

/-- Settles O12: each glyph of GLYPHS is the ROM read of its own digit, as SEGDEC's is. -/
theorem glyphDependsOnThePatternAlone : Obligations.GlyphDependsOnThePatternAlone := by
  intro s r r' k k' h
  refine ⟨_, _, boundBy_exec_glyphs r s, boundBy_exec_glyphs r' s, ?_, ?_⟩
  · rw [glyphsOf_getElem, glyphsOf_getElem, h]
  · rw [boundBy_exec_segdec, glyphsOf_getElem]

/-- Settles O44: what every operation does, from the tables of the state at hand. -/
theorem everyOperationCompletes : Obligations.EveryOperationCompletes := by
  intro i s
  obtain ⟨v, hv⟩ := exec_completes i s.modeCodes s.segRom
  obtain ⟨t, hnext, hres, hprog, hcodes, hseg⟩ := hv s rfl rfl
  exact ⟨t, v, hnext, hres, hprog, hcodes, hseg⟩

/-! The ROM built from 22 patterns, and the patterns it is built from (R101; log 6). -/

/-- The patterns of entries 1 to 22. -/
def freePatterns (rom : SegRom) : Vector Pattern 22 := Vector.ofFn fun k => rom[k.succ].1

theorem romFrom_succ (v : Vector Pattern 22) (k : Fin 22) :
    (romFrom v)[k.succ] = (v[k], romGlyphs[k.succ.val]'k.succ.isLt) := by
  fin_cases k <;> rfl

theorem romFrom_patterns (v : Vector Pattern 22) : (romFrom v).toList.map Prod.fst = 0x3F :: v.toList := by
  refine List.ext_getElem (by simp) fun n hn _ => ?_
  cases n with
  | zero => rfl
  | succ n =>
    have hlt : n < 22 := Nat.lt_of_succ_lt_succ (by simpa using hn)
    simpa using congrArg Prod.fst (romFrom_succ v ⟨n, hlt⟩)

/-- An allowed ROM is built from its own free patterns (R102, R104). -/
theorem romFrom_freePatterns {rom : SegRom} (hrom : RomWf rom) : romFrom (freePatterns rom) = rom := by
  have hentry (k : Fin 23) : (romFrom (freePatterns rom))[k] = rom[k] := by
    cases k using Fin.cases with
    | zero => exact Prod.ext (romWf_zero hrom).symm (romWf_glyph hrom 0).symm
    | succ k =>
      rw [romFrom_succ]
      exact Prod.ext (by simp [freePatterns]) (romWf_glyph hrom k.succ).symm
  exact Vector.ext fun n hn => hentry ⟨n, hn⟩

/-- Settles O52: an allowed ROM is built from its own free patterns, and distinct patterns build an allowed ROM. -/
theorem freeRomCoversEveryAllowedRom : Obligations.FreeRomCoversEveryAllowedRom := by
  refine ⟨fun rom hrom => ⟨freePatterns rom, ?_, (romFrom_freePatterns hrom).symm⟩, fun v hv => romFrom_wf hv⟩
  have ⟨_, _, hdistinct⟩ := hrom
  rw [distinctPatterns, decide_eq_true_eq, ← romFrom_patterns, romFrom_freePatterns hrom]
  exact hdistinct

/-- Settles O4: an allowed ROM's glyph column is `romGlyphs`, in which the glyphs are counted. -/
theorem romHoldsEachGlyphOnceAndHTwice : Obligations.RomHoldsEachGlyphOnceAndHTwice := by
  intro s ⟨_, hglyphs, _⟩
  rw [hglyphs]
  decide

/-- Settles O51: SEGDEC is a read of REF, evaluated at each pattern of I1. -/
theorem referenceFillGivesItsGlyphs : Obligations.ReferenceFillGivesItsGlyphs := by
  intro s href e he
  rw [boundBy_exec_segdec, href]
  revert e
  decide

end Sys2Proof.Machine
end

section
/-! The statements of 41_frame_decoder.md: what BITTEST, DIGEXT and DOTEXT read, the check of the mode byte, the Reading of
a frame and its ports, and the composites GLYPHS and DISPLAY. -/

namespace Sys2Proof.Machine

/-! BITTEST, DIGEXT and DOTEXT, and the frame bits that each reads (R120 to R126). -/

theorem bitTest_eq_weight (b : Byte) (n : Nat) :
    bitTest b n = if n < 8 then decide (b.toNat / 2 ^ n % 2 = 1) else false := by
  rw [bitTest, BitVec.getLsbD, Nat.testBit_eq_decide_div_mod_eq]

/-- Settles O13: the test of bit `n` as the remainder of a division by its weight. -/
theorem bittestReadsTheBitOfItsWeight : Obligations.BittestReadsTheBitOfItsWeight := by
  intro s b n
  rw [← bitTest_eq_weight]
  rfl

/-- Settles O14: the gathered bits, and the port `digit_pat<k>` when `ok = 1`. -/
theorem digextGathersBitsInOrder : Obligations.DigextGathersBitsInOrder := by
  intro s k f
  exact ⟨_, digExt f k, rfl, rfl, digExt_getLsbD f k, fun hok => State.digitPat_of_ok hok k⟩

/-- The digit byte of a pattern, with a given dot in bit 3 (R122). -/
def patternDigitByte (p : Pattern) (dot : Bool) : Byte :=
  BitVec.ofBool (p.getLsbD 3) ++ (BitVec.ofBool (p.getLsbD 2) ++ (BitVec.ofBool (p.getLsbD 6) ++
    (BitVec.ofBool (p.getLsbD 1) ++ (BitVec.ofBool dot ++ (BitVec.ofBool (p.getLsbD 4) ++
      (BitVec.ofBool (p.getLsbD 5) ++ BitVec.ofBool (p.getLsbD 0)))))))

theorem gather_patternDigitByte (p : Pattern) (dot : Bool) : gather (patternDigitByte p dot) = p := by
  revert p dot
  decide

/-- Settles O15: the closed form of `gather`, and the digit byte that it turns back into its pattern. -/
theorem digitByteClosedForm : Obligations.DigitByteClosedForm := by
  refine ⟨?_, fun s k f p dot h => ?_⟩
  · rintro s k f b rfl
    rw [← gather_eq]
    exact boundBy_exec_digext k f s
  · have hbyte : byte f digitByte[k] = patternDigitByte p dot := h
    rw [boundBy_exec_digext, digExt, hbyte, gather_patternDigitByte]

/-- Settles O17: the bit that a dot flag reads, and the port `dot` when `ok = 1`. -/
theorem dotextReadsBitThree : Obligations.DotextReadsBitThree := by
  intro s j f
  have hdot : dotExt f j = f.getLsbD (8 * (#v[5, 4, 3] : Vector Nat 3)[j] + 3) := dotExt_eq f j
  rw [← hdot]
  exact ⟨_, rfl, rfl, fun hok => (State.dot_getLsbD _ j).trans (State.dotFlag_of_ok hok j)⟩

theorem getLsbD_one_shiftLeft_of_ne {n i : Nat} (h : n ≠ i) : (1#64 <<< n).getLsbD i = false := by
  rw [← BitVec.twoPow_eq, BitVec.getLsbD_twoPow, decide_eq_false h, Bool.and_false]

/-- Settles O18: each clause keeps the bits that the operation reads, and bit 43 is dot 0's own. -/
theorem dotsAndDigitsAreIndependent : Obligations.DotsAndDigitsAreIndependent := by
  refine ⟨fun s j f f' h => ?_, fun s k f f' h => ?_, ?_⟩
  · rw [boundBy_exec_dotext, boundBy_exec_dotext, dotExt_eq, dotExt_eq]
    exact congrArg (some <| Value.bit ·) h
  · rw [boundBy_exec_digext, boundBy_exec_digext, digExt_congr_of_dots_ignored h]
  · rintro s f f' hclear rfl
    have hset : (f ||| 1#64 <<< 43).getLsbD 43 = true := by
      rw [BitVec.getLsbD_or, hclear]
      rfl
    have hdig : digExt f 1 = digExt (f ||| 1#64 <<< 43) 1 := by
      refine digExt_congr_of_dots_ignored (fun i hi => ?_) 1
      have hne : 43 ≠ i.val := by omega
      rw [BitVec.getLsbD_or, getLsbD_one_shiftLeft_of_ne hne, Bool.or_false]
    refine ⟨?_, ?_, ?_⟩
    · rw [boundBy_exec_dotext, dotExt_eq]
      exact congrArg (some <| Value.bit ·) hclear
    · rw [boundBy_exec_dotext, dotExt_eq]
      exact congrArg (some <| Value.bit ·) hset
    · rw [boundBy_exec_digext, boundBy_exec_digext, hdig]

/-- Settles O19: bit 51 is among the bits that no operation on a frame reads. -/
theorem bitThreeOfByteSixIsUnread : Obligations.BitThreeOfByteSixIsUnread := by
  rintro s f f' rfl
  obtain ⟨hunread, -, -⟩ := frameOutputsIgnoreUnreadBits
  obtain ⟨hdig, hdot, hframe, hdisplay, -⟩ := hunread s (f ^^^ 1#64 <<< 51) f fun i _ _ hi => by
    rw [BitVec.getLsbD_xor, getLsbD_one_shiftLeft_of_ne hi.symm, Bool.xor_false]
  exact ⟨hdig, hdot, hframe, hdisplay⟩

/-- Settles O29: the bits left to differ are those that no operation on a frame reads. -/
theorem framedecIgnoresReservedBits : Obligations.FramedecIgnoresReservedBits := by
  intro s f f' h
  obtain ⟨hunread, -, -⟩ := frameOutputsIgnoreUnreadBits
  obtain ⟨-, -, hframe, -⟩ := hunread s f f' h
  exact hframe

/-! MODEDEC, and FRAMEDEC in its two outcomes (R130 to R136). -/

/-- Settles O20: MODEDEC in its two cases. -/
theorem modedecChecksTheTable : Obligations.ModedecChecksTheTable := by
  intro s c ⟨hcodes, _⟩
  have hexec : exec (.modedec c) s = .next (s.bindResult (.mode (modeDec modeCodes c))) := hcodes ▸ rfl
  refine ⟨fun hc => ?_, fun hc => ?_⟩
  · rw [hexec, modeDec_of_mem (codes := modeCodes) hc]
    rfl
  · rw [hexec, modeDec_of_not_mem (codes := modeCodes) hc]
    rfl

/-- Under allowed tables a frame's byte 0 is checked against the 19 codes (R24, R62). -/
theorem State.TablesOk.modeByte_mem_iff {s : State} (hs : s.TablesOk) (f : Frame) :
    byte f modeByte ∈ s.modeCodes ↔ f.extractLsb' 0 8 ∈ Sys2Proof.Machine.modeCodes := by
  rw [hs.1]
  rfl

/-- The Reading that the fields of a frame make (R133). -/
def readingOf (f : Frame) : Reading where
  mode := byte f modeByte
  digits := digitsOf f
  dots := dotsOf f

theorem frameDec_eq_ok_iff {codes : List Byte} {f : Frame} {r : Reading} :
    frameDec codes f = .ok r ↔ byte f modeByte ∈ codes ∧ readingOf f = r := by
  by_cases h : byte f modeByte ∈ codes
  · simp [frameDec_of_mem h, h, readingOf]
  · simp [frameDec_of_not_mem h, h]

theorem boundBy_exec_framedec_eq_iff {f : Frame} {s : State} {v : Res Reading} :
    boundBy (exec (.framedec f) s) = some (.frame v) ↔ frameDec s.modeCodes f = v := by
  rw [boundBy_exec_framedec, Option.some.injEq, Value.frame.injEq]

theorem exec_framedec_of_frameDec {f : Frame} {s : State} {v : Res Reading} (h : frameDec s.modeCodes f = v) :
    exec (.framedec f) s = .next ((s.driveFrame f).bindResult (.frame v)) := h ▸ rfl

theorem boundBy_exec_framedec_of_mem {f : Frame} {s : State} (h : byte f modeByte ∈ s.modeCodes) :
    boundBy (exec (.framedec f) s) = some (.frame (.ok (readingOf f))) :=
  boundBy_exec_framedec_eq_iff.mpr (frameDec_of_mem h)

/-- Settles O25: FRAMEDEC fails exactly when byte 0 is not in the table. -/
theorem frameOutcomeDependsOnByteZeroAlone : Obligations.FrameOutcomeDependsOnByteZeroAlone := by
  intro s f hs
  refine ⟨fun hc => ?_, fun hc => ?_⟩
  · exact ⟨readingOf f, boundBy_exec_framedec_of_mem ((hs.modeByte_mem_iff f).mpr hc)⟩
  · obtain ⟨e, he⟩ := frameDec_fails_iff.mpr (mt (hs.modeByte_mem_iff f).mp hc)
    exact ⟨e, boundBy_exec_framedec_eq_iff.mpr he⟩

/-- Settles O26: the error of the byte that is not in the table, with that frame on the input. -/
theorem errorCarriesTheOffendingByte : Obligations.ErrorCarriesTheOffendingByte := by
  intro s f hs hc
  have hno : byte f modeByte ∉ s.modeCodes := mt (hs.modeByte_mem_iff f).mp hc
  exact ⟨_, exec_framedec_of_frameDec (frameDec_of_not_mem hno), rfl,
    Bool.eq_false_iff.mpr (mt State.ok_eq_true_iff.mp hno), rfl⟩

/-- The Reading of a decoded frame stands on the ports (R28, R133). -/
theorem State.ports_of_frameDec {s : State} {r : Reading} (h : frameDec s.modeCodes s.frame = .ok r) :
    s.ok = true ∧ s.code = r.mode ∧ (∀ k : Fin 4, s.digitPat k = r.digits[k]) ∧
      ∀ j : Fin 3, s.dot.getLsbD j.val = r.dots[j] := by
  obtain ⟨hmem, rfl⟩ := frameDec_eq_ok_iff.mp h
  have hok : s.ok = true := State.ok_eq_true_iff.mpr hmem
  exact ⟨hok, rfl, fun k => (digitPat_of_ok hok k).trans (digitsOf_getElem s.frame k).symm,
    fun j => (s.dot_getLsbD j).trans ((dotFlag_of_ok hok j).trans (dotsOf_getElem s.frame j).symm)⟩

/-- Settles O27: the Reading's fields bit by bit and on the ports, and the error as in O26. -/
theorem framedecAssemblesTheReading : Obligations.FramedecAssemblesTheReading := by
  intro s f hs
  refine ⟨fun hc => ?_, errorCarriesTheOffendingByte s f hs⟩
  have hdec : frameDec s.modeCodes f = .ok (readingOf f) := frameDec_of_mem ((hs.modeByte_mem_iff f).mpr hc)
  refine ⟨_, readingOf f, exec_framedec_of_frameDec hdec, rfl, rfl, fun k i => ?_, fun j => ?_,
    State.ports_of_frameDec (s := (s.driveFrame f).bindResult _) hdec⟩
  · exact (congrArg (BitVec.getLsbD · i.val) (digitsOf_getElem f k)).trans (digExt_getLsbD f k i)
  · exact (dotsOf_getElem f j).trans (dotExt_eq f j)

/-- Settles O28: FRAMEDEC in its two cases, which read the frame and the mode table alone. -/
theorem framedecGivesExactlyOneOutcome : Obligations.FramedecGivesExactlyOneOutcome := by
  intro s s' f ⟨hcodes, _⟩
  refine ⟨?_, by rw [boundBy_exec_framedec, boundBy_exec_framedec, hcodes]⟩
  simp only [boundBy_exec_framedec_eq_iff]
  by_cases h : byte f modeByte ∈ s.modeCodes
  · simp [frameDec_of_mem h]
  · simp [frameDec_of_not_mem h]

theorem byte_congr_of_mode_ignored {f f' : Frame}
    (h : ∀ i : Fin 64, 8 ≤ i.val → f.getLsbD i.val = f'.getLsbD i.val) {n : Nat} (hpos : 1 ≤ n) (hlt : n < 8) :
    byte f n = byte f' n := by
  refine BitVec.eq_of_getLsbD_eq fun i hi => ?_
  have hbit : f.getLsbD (8 * n + i) = f'.getLsbD (8 * n + i) := h ⟨8 * n + i, by omega⟩ (by simp only; omega)
  rw [byte_getLsbD, byte_getLsbD, hbit]

/-- Frames that agree outside byte 0 have the same patterns and dots: no digit and no dot stands in byte 0 (R138). -/
theorem content_congr_of_mode_ignored {f f' : Frame}
    (h : ∀ i : Fin 64, 8 ≤ i.val → f.getLsbD i.val = f'.getLsbD i.val) :
    digitsOf f = digitsOf f' ∧ dotsOf f = dotsOf f' := by
  have hdigitByte : ∀ k : Fin 4, 1 ≤ digitByte[k] ∧ digitByte[k] < 8 := by decide
  have hdotByte : ∀ j : Fin 3, 1 ≤ dotByte[j] ∧ dotByte[j] < 8 := by decide
  have hdig (k : Fin 4) : digExt f k = digExt f' k :=
    congrArg gather (byte_congr_of_mode_ignored h (hdigitByte k).1 (hdigitByte k).2)
  have hdot (j : Fin 3) : dotExt f j = dotExt f' j :=
    congrArg (bitTest · dotBit) (byte_congr_of_mode_ignored h (hdotByte j).1 (hdotByte j).2)
  simp only [digitsOf, dotsOf, hdig, hdot, and_self]

/-- Settles O30: both frames decode, and their patterns and dots agree. -/
theorem readingContentIgnoresTheMode : Obligations.ReadingContentIgnoresTheMode := by
  intro s f f' hs h hc hc'
  exact ⟨readingOf f, readingOf f', boundBy_exec_framedec_of_mem ((hs.modeByte_mem_iff f).mpr hc),
    boundBy_exec_framedec_of_mem ((hs.modeByte_mem_iff f').mpr hc'), content_congr_of_mode_ignored h⟩

/-- Settles O31: FRAMEDEC reads the mode table alone, and any patterns make a Reading. -/
theorem framedecResolvesNoGlyph : Obligations.FramedecResolvesNoGlyph := by
  refine ⟨fun s s' f hcodes => ?_, fun s f hs hc _ => ?_⟩
  · rw [boundBy_exec_framedec, boundBy_exec_framedec, hcodes]
  · exact ⟨readingOf f, boundBy_exec_framedec_of_mem ((hs.modeByte_mem_iff f).mpr hc), digitsOf_getElem f⟩

/-! GLYPHS and DISPLAY (R140, R141). -/

theorem boundBy_exec_glyphs_eq_iff {r : Reading} {s : State} {gs : Vector Glyph 4} :
    boundBy (exec (.glyphs r) s) = some (.glyphs gs) ↔ glyphsOf s.segRom r = gs := by
  rw [boundBy_exec_glyphs, Option.some.injEq, Value.glyphs.injEq]

theorem boundBy_exec_segdec_eq_iff {p : Pattern} {s : State} {g : Glyph} :
    boundBy (exec (.segdec p) s) = some (.glyph g) ↔ romRead s.segRom p = g := by
  rw [boundBy_exec_segdec, Option.some.injEq, Value.glyph.injEq]

/-- The glyphs of the decoded frame's Reading stand on the optional ports (R140; log 19). -/
theorem State.digitGlyph_of_frameDec {s : State} {r : Reading} (h : frameDec s.modeCodes s.frame = .ok r)
    (k : Fin 4) : s.digitGlyph k = (glyphsOf s.segRom r)[k] := by
  obtain ⟨-, -, hpat, -⟩ := State.ports_of_frameDec h
  rw [State.digitGlyph, hpat, glyphsOf_getElem]

/-- Settles O34: the ROM read of each digit with and without a matching entry, and the read wired to each port. -/
theorem glyphsResolvesFourDigits : Obligations.GlyphsResolvesFourDigits := by
  refine ⟨fun s r ⟨_, hrom⟩ => ?_, fun s k g h => ?_, fun s r gs hframe hglyphs k => ?_⟩
  · have ⟨_, _, hdistinct⟩ := hrom
    refine ⟨glyphsOf s.segRom r, rfl, fun k => ?_⟩
    rw [glyphsOf_getElem]
    refine ⟨fun g hg => romRead_of_mem hdistinct hg, fun hno => romRead_of_not_mem fun e he hp => ?_⟩
    exact hno e.2 (hp ▸ he)
  · have hglyph : s.digitGlyph k = g := boundBy_exec_segdec_eq_iff.mp h
    exact ⟨congrArg glyphKnown hglyph, congrArg glyphCode hglyph⟩
  · obtain rfl := boundBy_exec_glyphs_eq_iff.mp hglyphs
    have hglyph := State.digitGlyph_of_frameDec (boundBy_exec_framedec_eq_iff.mp hframe) k
    exact ⟨congrArg glyphKnown hglyph, congrArg glyphCode hglyph⟩

theorem displayOf_of_err {codes : List Byte} {f : Frame} {e : DecodeError} (rom : SegRom)
    (h : frameDec codes f = .err e) : displayOf codes rom f = .err e := by
  rw [displayOf, h]

theorem displayOf_of_ok {codes : List Byte} {f : Frame} {r : Reading} (rom : SegRom)
    (h : frameDec codes f = .ok r) : displayOf codes rom f = .ok ⟨r.mode, glyphsOf rom r, r.dots⟩ := by
  rw [displayOf, h]

/-- Settles O35: DISPLAY by the outcome of FRAMEDEC. -/
theorem displayIsFramedecThenGlyphs : Obligations.DisplayIsFramedecThenGlyphs := by
  intro s f
  refine ⟨displayOf s.modeCodes s.segRom f, rfl, fun e he => ?_, fun r gs hr hgs => ?_⟩
  · exact displayOf_of_err s.segRom (boundBy_exec_framedec_eq_iff.mp he)
  · obtain rfl := boundBy_exec_glyphs_eq_iff.mp hgs
    exact displayOf_of_ok s.segRom (boundBy_exec_framedec_eq_iff.mp hr)

end Sys2Proof.Machine
end

section
/-! The statements of 60_exceptions.md: which operations return the one error and with which byte, and when a step stops. -/

namespace Sys2Proof.Machine

/-! The error of each decoder that returns one, as a condition on its byte (R161). -/

theorem modeDec_eq_err_inv {codes : List Byte} {c : Byte} {e : DecodeError} (h : modeDec codes c = .err e) :
    c ∉ codes ∧ e = .unrecognizedMode c := by
  have hno : c ∉ codes := fun hc => by simp [modeDec_of_mem hc] at h
  exact ⟨hno, Res.err.inj (h.symm.trans (modeDec_of_not_mem hno))⟩

theorem frameDec_eq_err_inv {codes : List Byte} {f : Frame} {e : DecodeError} (h : frameDec codes f = .err e) :
    byte f modeByte ∉ codes ∧ e = .unrecognizedMode (byte f modeByte) := by
  have hno : byte f modeByte ∉ codes := frameDec_fails_iff.mp ⟨e, h⟩
  exact ⟨hno, Res.err.inj (h.symm.trans (frameDec_of_not_mem hno))⟩

/-- DISPLAY has no error of its own (R141). -/
theorem displayOf_eq_err_iff {codes : List Byte} {rom : SegRom} {f : Frame} {e : DecodeError} :
    displayOf codes rom f = .err e ↔ frameDec codes f = .err e := by
  cases h : frameDec codes f with
  | ok r => simp [displayOf_of_ok rom h]
  | err e' => simp [displayOf_of_err rom h]

/-! What the operations without a spec lemma so far bind (R70, R71, R120). -/

theorem boundBy_exec_bittest (b : Byte) (n : Nat) (s : State) :
    boundBy (exec (.bittest b n) s) = some (.bit (bitTest b n)) :=
  boundBy_next_bindResult s _

theorem boundBy_exec_modeUnrecognized (c : Byte) (s : State) :
    boundBy (exec (.modeUnrecognized c) s) = some (.mode (modeDec s.modeCodes c)) :=
  boundBy_next_bindResult s _

theorem boundBy_exec_romUnrec (p : Pattern) (s : State) :
    boundBy (exec (.romUnrec p) s) = some (.glyph (romRead s.segRom p)) :=
  boundBy_next_bindResult (s.drivePattern p) _

theorem boundBy_exec_romRow {s : State} (hrom : RomWf s.segRom) (k : Fin 23) :
    boundBy (exec (romRow k) s) = some (.glyph (romRead s.segRom s.segRom[k].1)) := by
  rw [exec_romRow_eq hrom, evalSegdec_eq, boundBy_next_bindResult]

/-- A mode row accepts its own code (R70). -/
theorem boundBy_exec_modeRow {s : State} (hcodes : s.modeCodes = Sys2Proof.Machine.modeCodes) (k : Fin 19) :
    boundBy (exec (modeRow k) s) = some (.mode (.ok (modeCode k))) := by
  have hmem : modeCode k ∈ s.modeCodes := by
    rw [hcodes, mem_modeCodes_iff]
    exact ⟨k, rfl⟩
  rw [exec_modeRow, evalModedec_eq, boundBy_next_bindResult, modeDec_of_mem hmem]

/-- Settles O32: byte 0 alone makes FRAMEDEC fail, and DISPLAY fails with it before any pattern is looked up. -/
theorem unknownModeReportsOnlyItself : Obligations.UnknownModeReportsOnlyItself := by
  intro s f hs hc _
  have hdec : frameDec s.modeCodes f = .err (.unrecognizedMode (f.extractLsb' 0 8)) :=
    frameDec_of_not_mem (mt (hs.modeByte_mem_iff f).mp hc)
  refine ⟨boundBy_exec_framedec_eq_iff.mpr hdec, ?_⟩
  rw [boundBy_exec_display, displayOf_of_err s.segRom hdec]

/-- Settles O33, by kind of operation: what it binds is a value of another type or `Ok` of a row's code, or else the
outcome of the mode check, whose error is known. -/
theorem onlyModeChecksRaiseTheError : Obligations.OnlyModeChecksRaiseTheError := by
  intro i s e hs h
  obtain ⟨hcodes, hrom⟩ := hs
  induction i using instr_by_rows with
  | segdec p => simp [boundBy_exec_segdec] at h
  | bittest b n => simp [boundBy_exec_bittest] at h
  | digext k f => simp [boundBy_exec_digext] at h
  | dotext j f => simp [boundBy_exec_dotext] at h
  | glyphs r => simp [boundBy_exec_glyphs] at h
  | modeRow k => simp [boundBy_exec_modeRow hcodes] at h
  | romRow k => simp [boundBy_exec_romRow hrom] at h
  | romUnrec p => simp [boundBy_exec_romUnrec] at h
  | modedec c =>
    have herr : modeDec modeCodes c = .err e := by simpa [boundBy_exec_modedec, hcodes] using h
    obtain ⟨hno, he⟩ := modeDec_eq_err_inv herr
    exact ⟨c, he, hno, .inl rfl⟩
  | modeUnrecognized c =>
    have herr : modeDec modeCodes c = .err e := by simpa [boundBy_exec_modeUnrecognized, hcodes] using h
    obtain ⟨hno, he⟩ := modeDec_eq_err_inv herr
    exact ⟨c, he, hno, .inr (.inl rfl)⟩
  | framedec f =>
    have herr : frameDec modeCodes f = .err e := by simpa [boundBy_exec_framedec, hcodes] using h
    obtain ⟨hno, he⟩ := frameDec_eq_err_inv herr
    exact ⟨byte f modeByte, he, hno, .inr (.inr ⟨f, rfl, .inl rfl⟩)⟩
  | display f =>
    have herr : frameDec modeCodes f = .err e := by simpa [boundBy_exec_display, displayOf_eq_err_iff, hcodes] using h
    obtain ⟨hno, he⟩ := frameDec_eq_err_inv herr
    exact ⟨byte f modeByte, he, hno, .inr (.inr ⟨f, rfl, .inr rfl⟩)⟩

/-! When a step stops (R47, R160, R168; log 15). -/

theorem step_of_reject {s : State} {r : Request} {rest : List Request} {why : Reject} (hp : s.program = r :: rest)
    (hd : decode s.segRom r = .reject why) : step s = .refused (.badRequest why) := by
  simp [step, hp, hd]

/-- A step goes on to a next state, or refuses a first request that the decoder rejects: an operation completes (R160). -/
theorem step_next_or_rejects (s : State) :
    (∃ t, step s = .next t) ∨
    ∃ r rest why, s.program = r :: rest ∧ decode s.segRom r = .reject why ∧ step s = .refused (.badRequest why) := by
  obtain ⟨-, hidle⟩ | hrej | ⟨r, rest, i, -, -, hexec⟩ := step_cases s
  · exact .inl ⟨s, hidle⟩
  · exact .inr hrej
  · obtain ⟨t, -, hnext, -⟩ := everyOperationCompletes i (s.present rest)
    exact .inl ⟨t, hexec.trans hnext⟩

/-- Settles O43: neither way a step can end is a fault, and only a rejected request is refused. -/
theorem stepStopsOnlyOnAMalformedRequest : Obligations.StepStopsOnlyOnAMalformedRequest := by
  intro s
  refine ⟨fun x hx => ?_, fun x => ⟨fun hx => ?_, ?_⟩⟩
  · obtain ⟨t, hnext⟩ | ⟨r, rest, why, -, -, href⟩ := step_next_or_rejects s
    · cases hnext.symm.trans hx
    · cases href.symm.trans hx
  · obtain ⟨t, hnext⟩ | ⟨r, rest, why, hp, hd, href⟩ := step_next_or_rejects s
    · cases hnext.symm.trans hx
    · cases href.symm.trans hx
      exact ⟨r, rest, why, hp, hd, rfl⟩
  · rintro ⟨r, rest, why, hp, hd, rfl⟩
    exact step_of_reject hp hd

end Sys2Proof.Machine
end

section
/-! The sample frame of 90_conflicts.md C1, as printed and as corrected. -/

namespace Sys2Proof.Machine

/-- A frame whose byte 0 is a code decodes to the Reading its fields make, under allowed tables (R24, R133). -/
theorem State.TablesOk.frameDec_eq_ok {s : State} (hs : s.TablesOk) {f : Frame} {r : Reading}
    (hmode : f.extractLsb' 0 8 ∈ Sys2Proof.Machine.modeCodes) (hr : readingOf f = r) :
    frameDec s.modeCodes f = .ok r :=
  frameDec_eq_ok_iff.mpr ⟨(hs.modeByte_mem_iff f).mpr hmode, hr⟩

theorem readingOf_correctedSample :
    readingOf 0x00D7D7D7D7000000 = ⟨0x00, #v[0x3F, 0x3F, 0x3F, 0x3F], #v[false, false, false]⟩ := by decide

theorem readingOf_printedSample :
    readingOf 0x007E7E7E7E000000 = ⟨0x00, #v[0x76, 0x76, 0x76, 0x76], #v[true, true, true]⟩ := by decide

/-- Four digits with the pattern of the one fixed ROM entry show '0' (R102). -/
theorem glyphsOf_zeros {rom : SegRom} (hrom : RomWf rom) (mode : Byte) (dots : Vector Bool 3) :
    glyphsOf rom ⟨mode, #v[0x3F, 0x3F, 0x3F, 0x3F], dots⟩ = #v[.char .d0, .char .d0, .char .d0, .char .d0] := by
  have hdef : glyphsOf rom ⟨mode, #v[0x3F, 0x3F, 0x3F, 0x3F], dots⟩ =
      #v[romRead rom 0x3F, romRead rom 0x3F, romRead rom 0x3F, romRead rom 0x3F] := rfl
  rw [hdef, romRead_zero hrom]

/-- Settles O53: each frame decodes to the Reading its fields make, and DISPLAY of the corrected one reads the fixed
entry of the ROM four times. -/
theorem correctedSampleFrameShowsZeros : Obligations.CorrectedSampleFrameShowsZeros := by
  intro s hs
  have ⟨_, hrom⟩ := hs
  have hcorrected := hs.frameDec_eq_ok (by decide) readingOf_correctedSample
  have hprinted := hs.frameDec_eq_ok (by decide) readingOf_printedSample
  refine ⟨?_, boundBy_exec_framedec_eq_iff.mpr hprinted⟩
  rw [boundBy_exec_display, displayOf_of_ok s.segRom hcorrected, glyphsOf_zeros hrom]

end Sys2Proof.Machine
end
